-- ==== Sys2Proof/Word.lean ====
section
/-! DEFINITION. The number types of the LN16's fields (R195): what the manual sends, adds or compares as bits. -/

namespace Sys2Proof

/-- One character's value on the link (R160). -/
abbrev Byte := BitVec 8

/-- A tag, a qseq, an nseq, a check value: 16 bits (R195, R164). -/
abbrev Half := BitVec 16

/-- A width or a delay: 24 bits (R195, R76). -/
abbrev Span := BitVec 24

/-- A cycle length or a 4-byte count on the link: 32 bits (R195). -/
abbrev Quad := BitVec 32

/-- A value of T: the 48-bit tick count (00, "Time and ticks"). -/
abbrev Stamp := BitVec 48

/-- A timing line, TL0 to TL15. -/
abbrev LineId := Fin 16

/-- A follow rule, 0 to 7 (R122). -/
abbrev RuleId := Fin 8

end Sys2Proof
end

