-- ==== Sys2Proof/Syntax.lean ====
section
/-! DEFINITION. The commands: one constructor of `Instr` per row of the opcode table. A request's operands are its
SEQ and the fields of its payload at the widths R196 gives them, so that every value a frame can carry is a
command; the owning block checks the ranges. -/

namespace Sys2Proof

/-- One order of SCHEDULE as the frame carries it (R199). -/
structure RawOrder where
  tag : Half
  line : Byte
  due : Stamp
  action : Byte
  width : Span
  late : Byte
  report : Byte
  deriving DecidableEq, Repr

/-- One edge of WRITE_SLOT as the frame carries it (R196). -/
structure RawEdge where
  offset : Half
  action : Byte
  deriving DecidableEq, Repr

/-- The settings of SET_FOLLOW as the frame carries them: bytes 2 to 16 of the rule record (R200). -/
structure RawFollow where
  source : Byte
  polarity : Byte
  target : Byte
  action : Byte
  width : Span
  delay : Span
  shots : Half
  retrigger : Byte
  late : Byte
  report : Byte
  deriving DecidableEq, Repr

/-- A request with the fields of its payload (R196). -/
inductive Request where
  | identify
  | status (clear : Byte)
  | await (condition : Byte) (argument : Stamp) (timeout : Half)
  | restart
  | start (origin : Byte)
  | stop
  | setTimebase (exponent : Byte) (length : Quad) (holdGuard : Byte)
  | hold
  | resume
  | setLine (line mode polarity : Byte) (filter : Half) (idle holdAction : Byte)
  | readLines
  | writeSlot (line slot boundary : Byte) (edges : List RawEdge)
  | clearPattern (line : Byte)
  | readCaptures (source : Byte) (qseq : Half) (max : Byte)
  | releaseCaptures (upto : Half)
  | setQueue (watermark : Half)
  | schedule (orders : List RawOrder)
  | cancel (tag : Half) (complete : Byte)
  | cancelLine (line : Byte)
  | listAgenda (first count : Byte)
  | setFollow (id : Byte) (settings : RawFollow)
  | armFollow (id : Byte)
  | disarmFollow (id : Byte)
  | clearFollow (id : Byte)
  | readFollow (id : Byte)
  | ackNotices (upto : Half)
  | setNotices (mask interval : Byte)
  deriving DecidableEq, Repr

/-- Why the receiver discards a frame at a character (R166); the byte gap has a row of its own. -/
inductive DiscardCause where
  | badStop
  | lengthAbove240
  | crcDiffers
  | notARequest
  deriving DecidableEq, Repr

/-- The commands of the opcode table. `pins` is the level found on each of TL0 to TL15 at the command's instant
(bit i is TLi, 1 is HIGH), for the commands at which the part samples them (R37, R40; DESIGN CHOICE, log entry 4). -/
inductive Instr where
  | identify (seq : Byte)
  | status (seq : Byte) (clear : Byte)
  | await (seq : Byte) (condition : Byte) (argument : Stamp) (timeout : Half)
  | restart (seq : Byte)
  | start (seq : Byte) (origin : Byte)
  | stop (seq : Byte)
  | setTimebase (seq : Byte) (exponent : Byte) (length : Quad) (holdGuard : Byte)
  | hold (seq : Byte)
  | resume (seq : Byte)
  | setLine (seq : Byte) (line mode polarity : Byte) (filter : Half) (idle holdAction : Byte)
  | readLines (seq : Byte) (pins : Half)
  | writeSlot (seq : Byte) (line slot boundary : Byte) (edges : List RawEdge)
  | clearPattern (seq : Byte) (line : Byte)
  | readCaptures (seq : Byte) (source : Byte) (qseq : Half) (max : Byte)
  | releaseCaptures (seq : Byte) (upto : Half)
  | setQueue (seq : Byte) (watermark : Half)
  | schedule (seq : Byte) (orders : List RawOrder)
  | cancel (seq : Byte) (tag : Half) (complete : Byte)
  | cancelLine (seq : Byte) (line : Byte)
  | listAgenda (seq : Byte) (first count : Byte)
  | setFollow (seq : Byte) (id : Byte) (settings : RawFollow)
  | armFollow (seq : Byte) (id : Byte)
  | disarmFollow (seq : Byte) (id : Byte)
  | clearFollow (seq : Byte) (id : Byte)
  | readFollow (seq : Byte) (id : Byte)
  | ackNotices (seq : Byte) (upto : Half)
  | setNotices (seq : Byte) (mask interval : Byte)
  /-- A good request frame whose kind bits name no request (R170). -/
  | unknownKind (seq : Byte) (kind : BitVec 6) (payload : List Byte)
  /-- A frame of these kind bits that repeats the SEQ and check value of the last-taken record is taken (R171). -/
  | duplicateFrame (kind : BitVec 6)
  /-- The frame on RXD ends by being discarded for this cause (R166). -/
  | frameDiscard (cause : DiscardCause)
  /-- A good request frame finds the waiting buffer occupied (R168). -/
  | overrun
  | byteGapExpiry
  /-- `pins` serves a READ_LINES that is then taken from the waiting buffer. -/
  | replyComplete (pins : Half)
  | deferredReplyComplete
  | noticeFrameComplete
  | repeatFrameComplete
  | repeatTimerExpiry
  | awaitTimeout
  | holdPinAsserted
  | holdPinReleased
  | tick (pins : Half)
  /-- The tick at which the offset reaches L (R2). -/
  | cycleBoundary (pins : Half)
  /-- The tick at which the entry of this tag, a single action, reaches its due (R88). -/
  | expireSingleAction (tag : Half) (pins : Half)
  /-- The tick at which the entry of this tag, a pulse in LEAD, reaches its due (R89). -/
  | expirePulseLead (tag : Half) (pins : Half)
  /-- The tick at which the entry of this tag, a pulse in TRAIL, reaches its due (R90). -/
  | expirePulseTrail (tag : Half) (pins : Half)
  /-- The tick at which this line's capture qualifies (R46). -/
  | captureQualified (line : LineId) (pins : Half)
  | powerUp
  | resetAsserted
  /-- The hardware reset ends; RATE1, RATE0 and HOLD as found in the first REFCLK period after it (R194). -/
  | resetEnd (rate1 rate0 : Bool) (holdAsserted : Bool)
  /-- A character is received complete, with its stop bit found high (`good`) or low (R161). -/
  | characterReceived (value : Byte) (good : Bool) (pins : Half)
  | vddBelowThreshold
  deriving DecidableEq, Repr

end Sys2Proof
end

