-- ==== Sys2Proof/Decode.lean ====
section
/-! DEFINITION. The table's rows give no bits, so no word spells a command. Requests do have a layout on the link
(R195, R196): their coder, the frame check (R164) and their reader stand here. -/

namespace Sys2Proof

/-- The command a table word spells: no row of the table gives bits. -/
def decodeTableWord (_nbits _w : Nat) : Option Instr := none

/-! ## Numbers as bytes, least significant first (R195) -/

def bytes16 (v : BitVec 16) : List Byte := [v.extractLsb' 0 8, v.extractLsb' 8 8]
def bytes24 (v : BitVec 24) : List Byte := [v.extractLsb' 0 8, v.extractLsb' 8 8, v.extractLsb' 16 8]
def bytes32 (v : BitVec 32) : List Byte :=
  [v.extractLsb' 0 8, v.extractLsb' 8 8, v.extractLsb' 16 8, v.extractLsb' 24 8]
def bytes48 (v : BitVec 48) : List Byte :=
  [v.extractLsb' 0 8, v.extractLsb' 8 8, v.extractLsb' 16 8, v.extractLsb' 24 8, v.extractLsb' 32 8, v.extractLsb' 40 8]

def word16 (b0 b1 : Byte) : BitVec 16 := b1 ++ b0
def word24 (b0 b1 b2 : Byte) : BitVec 24 := b2 ++ b1 ++ b0
def word32 (b0 b1 b2 b3 : Byte) : BitVec 32 := b3 ++ b2 ++ b1 ++ b0
def word48 (b0 b1 b2 b3 b4 b5 : Byte) : BitVec 48 := b5 ++ b4 ++ b3 ++ b2 ++ b1 ++ b0

/-! ## The frame check (R164) -/

/-- Steps 3 and 4 for one bit. -/
def checkBit (reg : Half) (bit : Bool) : Half :=
  let shifted := reg <<< 1
  if xor bit reg.msb then shifted ^^^ 0x1021 else shifted

/-- Step 2: the bits of one byte, the most significant first. -/
def checkByte (reg : Half) (b : Byte) : Half :=
  (List.range 8).foldl (fun r i => checkBit r (b.getLsbD (7 - i))) reg

/-- The check value over the covered bytes. -/
def checkValue (covered : List Byte) : Half := covered.foldl checkByte 0xFFFF

/-- The check value of a frame: it covers LEN, SEQ, KIND and the payload, not the start byte. -/
def frameCheck (seq kind : Byte) (payload : List Byte) : Half :=
  checkValue (BitVec.ofNat 8 payload.length :: seq :: kind :: payload)

/-- The characters of a frame (R162): start, LEN, SEQ, KIND, payload, check value low byte first. -/
def frameBytes (seq kind : Byte) (payload : List Byte) : List Byte :=
  0xC3 :: BitVec.ofNat 8 payload.length :: seq :: kind :: payload ++ bytes16 (frameCheck seq kind payload)

/-! ## Request kinds and payloads (R196) -/

/-- The kind bits of each request (R196). -/
def Request.kind : Request → BitVec 6
  | .identify => 0x01
  | .status .. => 0x02
  | .await .. => 0x03
  | .restart => 0x04
  | .start .. => 0x08
  | .stop => 0x09
  | .setTimebase .. => 0x0A
  | .hold => 0x0B
  | .resume => 0x0C
  | .setLine .. => 0x10
  | .readLines => 0x11
  | .writeSlot .. => 0x14
  | .clearPattern .. => 0x15
  | .readCaptures .. => 0x18
  | .releaseCaptures .. => 0x19
  | .setQueue .. => 0x1A
  | .schedule .. => 0x20
  | .cancel .. => 0x21
  | .cancelLine .. => 0x22
  | .listAgenda .. => 0x23
  | .setFollow .. => 0x28
  | .armFollow .. => 0x29
  | .disarmFollow .. => 0x2A
  | .clearFollow .. => 0x2B
  | .readFollow .. => 0x2C
  | .ackNotices .. => 0x30
  | .setNotices .. => 0x31

/-- KIND of a request frame: class bits 00 (R163). -/
def requestKindByte (kind : BitVec 6) : Byte := 0#2 ++ kind

/-- The class bits of KIND (R163). -/
def kindClass (kind : Byte) : BitVec 2 := kind.extractLsb' 6 2

/-- The kind bits of KIND (R163). -/
def kindBits (kind : Byte) : BitVec 6 := kind.extractLsb' 0 6

/-- The kinds that name a request (R196). -/
def requestKinds : List (BitVec 6) :=
  [0x01, 0x02, 0x03, 0x04, 0x08, 0x09, 0x0A, 0x0B, 0x0C, 0x10, 0x11, 0x14, 0x15, 0x18, 0x19, 0x1A,
   0x20, 0x21, 0x22, 0x23, 0x28, 0x29, 0x2A, 0x2B, 0x2C, 0x30, 0x31]

def knownKind (kind : BitVec 6) : Bool := requestKinds.contains kind

/-- A SCHEDULE order's 15 bytes (R199). -/
def RawOrder.bytes (o : RawOrder) : List Byte :=
  bytes16 o.tag ++ [o.line] ++ bytes48 o.due ++ [o.action] ++ bytes24 o.width ++ [o.late, o.report]

/-- A WRITE_SLOT edge's 3 bytes (R196). -/
def RawEdge.bytes (e : RawEdge) : List Byte := bytes16 e.offset ++ [e.action]

/-- Bytes 2 to 16 of the rule record (R200). -/
def RawFollow.bytes (f : RawFollow) : List Byte :=
  [f.source, f.polarity, f.target, f.action] ++ bytes24 f.width ++ bytes24 f.delay ++ bytes16 f.shots
    ++ [f.retrigger, f.late, f.report]

/-- The payload of a request frame (R196). -/
def Request.payload : Request → List Byte
  | .identify => []
  | .status clear => [clear]
  | .await condition argument timeout => [condition] ++ bytes48 argument ++ bytes16 timeout
  | .restart => []
  | .start origin => [origin]
  | .stop => []
  | .setTimebase exponent length holdGuard => [exponent] ++ bytes32 length ++ [holdGuard]
  | .hold => []
  | .resume => []
  | .setLine line mode polarity filter idle holdAction =>
      [line, mode, polarity] ++ bytes16 filter ++ [idle, holdAction]
  | .readLines => []
  | .writeSlot line slot boundary edges => [line, slot, boundary] ++ edges.flatMap RawEdge.bytes
  | .clearPattern line => [line]
  | .readCaptures source qseq max => [source] ++ bytes16 qseq ++ [max]
  | .releaseCaptures upto => bytes16 upto
  | .setQueue watermark => bytes16 watermark
  | .schedule orders => orders.flatMap RawOrder.bytes
  | .cancel tag complete => bytes16 tag ++ [complete]
  | .cancelLine line => [line]
  | .listAgenda first count => [first, count]
  | .setFollow id settings => [id] ++ settings.bytes
  | .armFollow id => [id]
  | .disarmFollow id => [id]
  | .clearFollow id => [id]
  | .readFollow id => [id]
  | .ackNotices upto => bytes16 upto
  | .setNotices mask interval => [mask, interval]

/-! ## Reading a request frame (R170, R196) -/

/-- What the link's acceptance checks make of a frame (R170). -/
inductive Parsed where
  | unknownKind
  | badLength
  | request (r : Request)
  deriving DecidableEq, Repr

/-- The orders of a SCHEDULE payload; none unless it is a whole number of 15-byte orders. -/
def readOrders : List Byte → Option (List RawOrder)
  | [] => some []
  | t0 :: t1 :: l :: d0 :: d1 :: d2 :: d3 :: d4 :: d5 :: a :: w0 :: w1 :: w2 :: p :: r :: rest =>
      (readOrders rest).map
        (⟨word16 t0 t1, l, word48 d0 d1 d2 d3 d4 d5, a, word24 w0 w1 w2, p, r⟩ :: ·)
  | _ => none

/-- The edges of a WRITE_SLOT payload after its fixed part; none unless it is a whole number of 3-byte edges. -/
def readEdges : List Byte → Option (List RawEdge)
  | [] => some []
  | o0 :: o1 :: a :: rest => (readEdges rest).map (⟨word16 o0 o1, a⟩ :: ·)
  | _ => none

/-- Both acceptance checks of R170: the kind first, then the length R196 allows it. -/
def parseRequest (kind : BitVec 6) (payload : List Byte) : Parsed :=
  match kind.toNat, payload with
  | 0x01, [] => .request .identify
  | 0x02, [c] => .request (.status c)
  | 0x03, [c, a0, a1, a2, a3, a4, a5, t0, t1] => .request (.await c (word48 a0 a1 a2 a3 a4 a5) (word16 t0 t1))
  | 0x04, [] => .request .restart
  | 0x08, [o] => .request (.start o)
  | 0x09, [] => .request .stop
  | 0x0A, [p, l0, l1, l2, l3, g] => .request (.setTimebase p (word32 l0 l1 l2 l3) g)
  | 0x0B, [] => .request .hold
  | 0x0C, [] => .request .resume
  | 0x10, [l, m, p, f0, f1, i, h] => .request (.setLine l m p (word16 f0 f1) i h)
  | 0x11, [] => .request .readLines
  | 0x14, l :: s :: b :: rest =>
      match readEdges rest with
      | some edges => if payload.length ≤ 240 then .request (.writeSlot l s b edges) else .badLength
      | none => .badLength
  | 0x15, [l] => .request (.clearPattern l)
  | 0x18, [f, q0, q1, m] => .request (.readCaptures f (word16 q0 q1) m)
  | 0x19, [q0, q1] => .request (.releaseCaptures (word16 q0 q1))
  | 0x1A, [w0, w1] => .request (.setQueue (word16 w0 w1))
  | 0x20, orders =>
      match readOrders orders with
      | some os => if payload.length ≤ 240 then .request (.schedule os) else .badLength
      | none => .badLength
  | 0x21, [t0, t1, c] => .request (.cancel (word16 t0 t1) c)
  | 0x22, [l] => .request (.cancelLine l)
  | 0x23, [s, c] => .request (.listAgenda s c)
  | 0x28, [id, s, p, t, a, w0, w1, w2, d0, d1, d2, s0, s1, r, l, rep] =>
      .request (.setFollow id ⟨s, p, t, a, word24 w0 w1 w2, word24 d0 d1 d2, word16 s0 s1, r, l, rep⟩)
  | 0x29, [id] => .request (.armFollow id)
  | 0x2A, [id] => .request (.disarmFollow id)
  | 0x2B, [id] => .request (.clearFollow id)
  | 0x2C, [id] => .request (.readFollow id)
  | 0x30, [n0, n1] => .request (.ackNotices (word16 n0 n1))
  | 0x31, [m, i] => .request (.setNotices m i)
  | _, _ => if knownKind kind then .badLength else .unknownKind

end Sys2Proof
end

