-- ==== Sys2Proof/Config.lean ====
section
/-! DEFINITION. What the part fixes (R181) and the two free values. -/

namespace Sys2Proof.Config

/-- Capture Queue entries (R54, R181). -/
def queueCapacity : Nat := 256

/-- Edge Agenda entries (R78, R181). -/
def agendaCapacity : Nat := 64

/-- Tags of the fired history (R92). -/
def historyCapacity : Nat := 16

/-- Records of the Notice Queue (R146, R181). -/
def noticeCapacity : Nat := 32

/-- Records at which an ordinary notice is lost (R144, R146). -/
def ordinaryCapacity : Nat := 31

/-- Largest payload of a frame (R162). -/
def payloadLimit : Nat := 240

/-- REFCLK periods in one millisecond of service time (R185). -/
def periodsPerMs : Nat := 25000

/-- REFCLK periods in one unit of the repeat interval, 10 ms (08, section 8.5). -/
def periodsPerRepeatUnit : Nat := 250000

/-- FREE VALUE (DESIGN CHOICE, log entry 5): which of several events that are due at one REFCLK period the idle clock
takes first, for the n-th such choice. The manual says that either may be taken first. -/
opaque firstDue : Nat → Nat

/-- FREE VALUE (DESIGN CHOICE, log entry 18): byte 3 of the record of a line in DRIVE, by the codes of its idle level and
hold action. R200 gives the hold action in byte 2 and states nothing of byte 3. -/
opaque driveRecordByte3 : BitVec 8 → BitVec 8 → BitVec 8

end Sys2Proof.Config
end

