-- ==== Sys2Proof/Machine/State.lean ====
section
/-! DEFINITION. The state of the LN16, block by block as the introduction's table lists them, as plain data, with
the values after reset (R21, R38, R53, R75, R104, R121, R141, R159, R179). -/

namespace Sys2Proof.Machine

/-- `n` like things, one per line or rule. -/
structure Bank (n : Nat) (α : Type) where
  items : List α
  sized : items.length = n
  deriving DecidableEq, Repr

namespace Bank

variable {n : Nat} {α β : Type}

def replicate (n : Nat) (a : α) : Bank n α := ⟨List.replicate n a, by simp⟩

def get (b : Bank n α) (i : Fin n) : α := b.items[i.val]'(b.sized.symm ▸ i.isLt)

def set (b : Bank n α) (i : Fin n) (a : α) : Bank n α := ⟨b.items.set i.val a, by simp [b.sized]⟩

def map (f : α → β) (b : Bank n α) : Bank n β := ⟨b.items.map f, by simp [b.sized]⟩

/-- Each thing replaced by a value computed from its number and itself. -/
def mapEach (f : Fin n → α → β) (b : Bank n α) : Bank n β := ⟨List.ofFn fun i => f i (b.get i), by simp⟩

end Bank

/-! ## Timebase (chapter 1) -/

/-- A line's level (00, "Levels"). -/
inductive Level where
  | low
  | high
  deriving DecidableEq, Repr

/-- R5. -/
inductive TimebaseState where
  | stopped
  | running
  | held
  deriving DecidableEq, Repr

/-- The hold reasons, a set of up to two members (01, section 1.5). -/
structure HoldReasons where
  pin : Bool
  link : Bool
  deriving DecidableEq, Repr

/-- The timebase: R21 lists its items. -/
structure Timebase where
  state : TimebaseState
  /-- T. -/
  time : Stamp
  offset : Nat
  cycle : Quad
  /-- L. -/
  length : Nat
  staged : Option Nat
  /-- The exponent p. -/
  prescale : Nat
  /-- The hold guard: true is ON. -/
  holdGuard : Bool
  /-- The prescale count (R1). -/
  count : Nat
  reasons : HoldReasons
  deriving DecidableEq, Repr

def Timebase.reset : Timebase :=
  { state := .stopped, time := 0, offset := 0, cycle := 0, length := 10000, staged := none, prescale := 0
    holdGuard := false, count := 0, reasons := ⟨false, false⟩ }

/-! ## Line Controllers (chapters 2 and 6) -/

/-- What an action does to a level (R25). -/
inductive LevelAction where
  | set
  | clear
  | toggle
  deriving DecidableEq, Repr

/-- R105: what a pattern does at each cycle boundary. -/
inductive BoundaryAction where
  | keep
  | act (a : LevelAction)
  deriving DecidableEq, Repr

structure PatternEdge where
  offset : Nat
  action : LevelAction
  deriving DecidableEq, Repr

/-- R105. -/
structure Pattern where
  boundary : BoundaryAction
  edges : List PatternEdge
  deriving DecidableEq, Repr

/-- NONE, A or B, as active slot or pending takeover (R106). -/
inductive SlotSel where
  | noSlot
  | slotA
  | slotB
  deriving DecidableEq, Repr

/-- The polarity setting of a capture line (R42). -/
inductive CapturePolarity where
  | rise
  | fall
  | both
  deriving DecidableEq, Repr

/-- R31. -/
inductive HoldAction where
  | freeze
  | forceLow
  | forceHigh
  deriving DecidableEq, Repr

/-- A line's mode with the settings of that mode and no others (R22). -/
inductive LineMode where
  | off
  | capture (polarity : CapturePolarity) (filter : Nat)
  | drive (idle : Level) (holdAction : HoldAction)
  deriving DecidableEq, Repr

/-- R22, R105, R106. `level` is present outside hold on a drive line, `saved` and `frozen` during hold. -/
structure Line where
  mode : LineMode
  level : Option Level
  saved : Option Level
  frozen : Option Level
  slotA : Option Pattern
  slotB : Option Pattern
  active : SlotSel
  /-- absent, or what the active slot becomes at the next boundary. -/
  takeover : Option SlotSel
  deriving DecidableEq, Repr

def Line.reset : Line :=
  { mode := .off, level := none, saved := none, frozen := none, slotA := none, slotB := none, active := .noSlot
    takeover := none }

/-! ## Capture Qualifiers (chapter 3) -/

/-- The direction of an edge, a candidate or a capture (R41). -/
inductive Edge where
  | rise
  | fall
  deriving DecidableEq, Repr

/-- R39. -/
inductive QualState where
  | waiting
  | qualifying (polarity : Edge) (stamp : Stamp) (remaining : Nat)
  deriving DecidableEq, Repr

structure Qualifier where
  state : QualState
  last : Option Level
  deriving DecidableEq, Repr

def Qualifier.reset : Qualifier := { state := .waiting, last := none }

/-- R46. -/
structure Capture where
  line : LineId
  polarity : Edge
  stamp : Stamp
  deriving DecidableEq, Repr

/-! ## Capture Queue (chapter 4) -/

/-- R54. `fired` holds the rules that fired, in ascending id. -/
inductive QueueEntry where
  | capture (qseq : Half) (line : LineId) (polarity : Edge) (stamp : Stamp) (fired : List RuleId)
  | gap (qseq : Half) (lost : Nat) (first : Stamp)
  deriving DecidableEq, Repr

/-- The pending loss, when present (R59). -/
structure PendingLoss where
  count : Nat
  first : Stamp
  deriving DecidableEq, Repr

/-- R54; a flag is true when ARMED. -/
structure CaptureQueue where
  /-- head first. -/
  entries : List QueueEntry
  nextQseq : Half
  readPointer : Half
  loss : Option PendingLoss
  watermark : Nat
  readyFlag : Bool
  watermarkFlag : Bool
  deriving DecidableEq, Repr

def CaptureQueue.reset : CaptureQueue :=
  { entries := [], nextQseq := 0, readPointer := 0, loss := none, watermark := 0, readyFlag := true
    watermarkFlag := true }

/-! ## Edge Agenda (chapter 5) -/

/-- R76: a single action, or a pulse whose lead makes the level `lead` (PULSE_HIGH, PULSE_LOW) with its width. -/
inductive Action where
  | single (a : LevelAction)
  | pulse (lead : Level) (width : Span)
  deriving DecidableEq, Repr

inductive Phase where
  | lead
  | trail
  deriving DecidableEq, Repr

inductive Origin where
  | host
  | follow (k : RuleId)
  deriving DecidableEq, Repr

/-- R76. -/
structure AgendaEntry where
  tag : Half
  line : LineId
  due : Stamp
  action : Action
  phase : Phase
  origin : Origin
  report : Bool
  deriving DecidableEq, Repr

structure Agenda where
  /-- nearest due first (R78). -/
  entries : List AgendaEntry
  /-- newest first (R92). -/
  history : List Half
  deriving DecidableEq, Repr

def Agenda.reset : Agenda := { entries := [], history := [] }

/-! ## Follow Table (chapter 7) -/

inductive FollowPolarity where
  | rise
  | fall
  | either
  deriving DecidableEq, Repr

inductive Retrigger where
  | restart
  | ignore
  deriving DecidableEq, Repr

/-- The late policy of a follow rule (R122). -/
inductive FollowLate where
  | fireNow
  | miss
  deriving DecidableEq, Repr

/-- The settings of a rule (R122). -/
structure FollowSettings where
  source : LineId
  polarity : FollowPolarity
  target : LineId
  action : Action
  delay : Span
  shots : Nat
  retrigger : Retrigger
  late : FollowLate
  report : Bool
  deriving DecidableEq, Repr

/-- The state of a rule that holds settings (R123). -/
inductive RuleStatus where
  | disarmed
  | armed
  | spent
  deriving DecidableEq, Repr

/-- A rule that is not EMPTY (R122). An EMPTY rule is `none` in the table: it holds no settings and its counts read 0. -/
structure FollowRule where
  status : RuleStatus
  settings : FollowSettings
  shotsRemaining : Nat
  fires : Nat
  misses : Nat
  deriving DecidableEq, Repr

/-- A rule's state as requests report it (R123). -/
inductive RuleState where
  | empty
  | disarmed
  | armed
  | spent
  deriving DecidableEq, Repr

inductive MissReason where
  | targetMode
  | late
  | busy
  | agendaFull
  deriving DecidableEq, Repr

/-! ## Notice Queue (chapter 8) -/

/-- R193, R192. -/
inductive RestartCause where
  | powerOn
  | resetPin
  | restartRequest
  deriving DecidableEq, Repr

/-- The kinds of notice with their bodies (R143). -/
inductive NoticeBody where
  | restarted (cause : RestartCause)
  | holdEntered (reasons : HoldReasons)
  | holdLeft
  | captureReady (unread : Nat) (head : Half)
  | queueWatermark (unread : Nat)
  | queueLoss (line : LineId) (stamp : Stamp)
  | edgeDone (tag : Half) (line : LineId) (stamp : Stamp) (phase : Phase)
  | slotTaken (line : LineId) (slot : SlotSel) (cycle : Quad)
  | patternClipped (line : LineId) (slot : SlotSel) (count : Nat)
  | followMiss (id : RuleId) (reason : MissReason) (stamp : Stamp)
  | followSpent (id : RuleId)
  | noticeLost (count : Nat)
  deriving DecidableEq, Repr

/-- What a frame of a notice carries (R148). -/
structure NoticeContent where
  nseq : Half
  stamp : Stamp
  body : NoticeBody
  deriving DecidableEq, Repr

/-- A notice record (R142): `sent` is SENT, `mark` is the repeat mark. -/
structure Notice where
  content : NoticeContent
  sent : Bool
  mark : Bool
  deriving DecidableEq, Repr

/-- R142. -/
structure NoticeQueue where
  /-- head first. -/
  records : List Notice
  nextNseq : Half
  pendingLost : Nat
  mask : Byte
  interval : Byte
  /-- none is STOPPED; some e is RUNNING with e REFCLK periods counted (R150). -/
  timer : Option Nat
  deriving DecidableEq, Repr

/-- R159. -/
def NoticeQueue.reset (cause : RestartCause) : NoticeQueue :=
  { records := [{ content := { nseq := 1, stamp := 0, body := .restarted cause }, sent := false, mark := false }]
    nextNseq := 2, pendingLost := 0, mask := 0xFF, interval := 10, timer := none }

/-- The queue while the hardware reset lasts: its records are discarded, so that ATTN is released (R157, R159). -/
def NoticeQueue.empty : NoticeQueue :=
  { records := [], nextNseq := 1, pendingLost := 0, mask := 0xFF, interval := 10, timer := none }

/-! ## Replies (chapters 10 and 11) -/

/-- R197. -/
inductive ResultCode where
  | ok
  | cancelled
  | unknownKind
  | badLength
  | badField
  | held
  | wrongState
  | lineMode
  | slotActive
  | agendaFull
  | tagInUse
  | tagReserved
  | late
  | notFound
  | alreadyFired
  | notInQueue
  | notRead
  | notSent
  | busy
  | timeout
  deriving DecidableEq, Repr

/-- The six link counters (R177). -/
structure LinkCounters where
  framing : Nat
  length : Nat
  crc : Nat
  cls : Nat
  overrun : Nat
  duplicate : Nat
  deriving DecidableEq, Repr

def LinkCounters.zero : LinkCounters :=
  { framing := 0, length := 0, crc := 0, cls := 0, overrun := 0, duplicate := 0 }

/-- The STATUS snapshot (R182). -/
structure Snapshot where
  state : TimebaseState
  reasons : HoldReasons
  holdGuard : Bool
  prescale : Nat
  time : Stamp
  offset : Nat
  cycle : Quad
  length : Nat
  staged : Option Nat
  agendaHeld : Nat
  queueHeld : Nat
  unread : Nat
  lossCount : Nat
  noticesHeld : Nat
  noticesLost : Nat
  rules : List RuleState
  counters : LinkCounters
  deriving DecidableEq, Repr

/-- One line's report in READ_LINES (R37). -/
structure LineRecord where
  mode : LineMode
  pin : Level
  saved : Option Level
  active : SlotSel
  takeover : Option SlotSel
  deriving DecidableEq, Repr

/-- One rule's report (R139). -/
structure RuleRecord where
  id : RuleId
  state : RuleState
  settings : Option FollowSettings
  shotsRemaining : Nat
  fires : Nat
  misses : Nat
  /-- phase and due of the rule's agenda entry. -/
  entry : Option (Phase × Stamp)
  deriving DecidableEq, Repr

/-- R88: what became of an order of an accepted SCHEDULE. -/
inductive OrderOutcome where
  | queued
  | firedLate
  deriving DecidableEq, Repr

/-- What follows the result code in a reply (R197). -/
inductive ReplyData where
  | codeOnly
  | identity
  | status (snapshot : Snapshot)
  | await (time : Stamp) (value : Nat)
  | start (state : TimebaseState) (time : Stamp)
  | stop (time : Stamp) (offset : Nat) (cycle : Quad)
  | lengths (length : Nat) (staged : Option Nat)
  | reasons (reasons : HoldReasons)
  | voided (count : Nat)
  | lines (records : List LineRecord)
  | pattern (active : SlotSel) (takeover : Option SlotSel) (stored : Pattern)
  | slots (active : SlotSel) (takeover : Option SlotSel)
  | captures (moreUnread : Bool) (entries : List QueueEntry)
  | released (removed held : Nat)
  | watermark (watermark unread : Nat)
  | scheduled (free : Nat) (outcomes : List OrderOutcome)
  | removed (count : Nat)
  | agenda (time : Stamp) (held : Nat) (entries : List AgendaEntry)
  | rule (record : RuleRecord)
  | armed (state : RuleState) (shotsRemaining : Nat)
  | ruleState (state : RuleState)
  | cleared (phase : Option Phase)
  | acknowledged (removed held : Nat) (head : Half) (newestSent : Option Half)
  | notices (mask interval : Byte) (held lost : Nat)
  | cancelled (phase : Phase)
  | scheduleError (index free : Nat)
  | offsetError (index checkLength : Nat)
  deriving DecidableEq, Repr

/-- A reply's payload: the result code, then its data (R172). -/
structure Reply where
  code : ResultCode
  data : ReplyData
  deriving DecidableEq, Repr

/-- A reply frame before it is laid out: SEQ and kind bits of the request answered (R172). -/
structure ReplyFrame where
  seq : Byte
  kind : BitVec 6
  reply : Reply
  deriving DecidableEq, Repr

/-! ## Control Link (chapter 9) -/

/-- The bit rates RATE1 and RATE0 select (R160). -/
inductive Rate where
  | r115200
  | r460800
  | r1000000
  | r3000000
  deriving DecidableEq, Repr

/-- The frame receiver with the bytes of the frame received so far (R165); LEN minus the payload bytes kept is the
count still expected. The byte-gap timer runs in every state but `hunt` (R167). -/
inductive Receiver where
  | hunt
  | len
  | header (len : Byte) (seq : Option Byte)
  | body (len seq kind : Byte) (payload : List Byte)
  | check (seq kind : Byte) (payload : List Byte) (low : Option Byte)
  deriving DecidableEq, Repr

/-- A good request frame (R168); its LEN is the length of its payload. -/
structure RequestFrame where
  seq : Byte
  kind : BitVec 6
  payload : List Byte
  check : Half
  deriving DecidableEq, Repr

/-- R171. -/
inductive RecordState where
  | completed (cached : Reply)
  | deferred
  deriving DecidableEq, Repr

structure LastTaken where
  seq : Byte
  check : Half
  state : RecordState
  deriving DecidableEq, Repr

/-- The conditions of AWAIT (R184); `agendaEmpty none` is ALL. -/
inductive AwaitCondition where
  | agendaEmpty (line : Option LineId)
  | unreadAtLeast (n : Nat)
  | timeReached (stamp : Stamp)
  | holdClear
  deriving DecidableEq, Repr

/-- The deferred request (R173, R185). `timer` counts REFCLK periods while the await timer runs; it is none once the
reply has been placed (R187). -/
structure Deferred where
  seq : Byte
  check : Half
  condition : AwaitCondition
  timeoutMs : Nat
  timer : Option Nat
  deriving DecidableEq, Repr

/-- The frame the transmitter sends, by source, its content as fixed when it began (R175). -/
inductive TxFrame where
  | reply (f : ReplyFrame)
  | deferredReply (f : ReplyFrame)
  | firstSending (c : NoticeContent)
  | repeatSending (c : NoticeContent)
  deriving DecidableEq, Repr

inductive Transmitter where
  | idle
  | sending (f : TxFrame)
  deriving DecidableEq, Repr

/-- R179 lists the items. -/
structure Link where
  rate : Rate
  rx : Receiver
  waiting : Option RequestFrame
  lastTaken : Option LastTaken
  deferred : Option Deferred
  replySlot : Option ReplyFrame
  deferredSlot : Option ReplyFrame
  tx : Transmitter
  counters : LinkCounters
  /-- An accepted RESTART whose reply has not been sent (R190). -/
  restartPending : Bool
  deriving DecidableEq, Repr

def Link.reset (rate : Rate) : Link :=
  { rate := rate, rx := .hunt, waiting := none, lastTaken := none, deferred := none, replySlot := none
    deferredSlot := none, tx := .idle, counters := .zero, restartPending := false }

/-! ## Reset and power (R193) -/

structure Power where
  /-- The hardware reset lasts. -/
  inReset : Bool
  /-- RESET_N is asserted. -/
  resetAsserted : Bool
  /-- VDD is below the power-up detector's threshold. -/
  vddLow : Bool
  powerUpFlag : Bool
  deriving DecidableEq, Repr

/-- After a reset nothing holds the part in reset and the flag has been cleared (R193). -/
def Power.reset : Power := { inReset := false, resetAsserted := false, vddLow := false, powerUpFlag := false }

/-! ## The part -/

structure State where
  timebase : Timebase
  lines : Bank 16 Line
  qualifiers : Bank 16 Qualifier
  queue : CaptureQueue
  agenda : Agenda
  rules : Bank 8 (Option FollowRule)
  notices : NoticeQueue
  link : Link
  power : Power
  /-- The level the outside last presented on each TL pin, 1 is HIGH (DESIGN CHOICE, log entry 4). -/
  inputs : Half
  /-- How many free choices the idle clock has made (DESIGN CHOICE, log entry 5); the model's own. -/
  freeCount : Nat
  /-- The commands that wait, first in first out; the model's own. -/
  pending : List Instr
  deriving DecidableEq, Repr

/-- The part right after a power-on reset with HOLD released and RATE1 and RATE0 low (DESIGN CHOICE, log entry 3). -/
def State.reset : State :=
  { timebase := .reset, lines := .replicate 16 .reset, qualifiers := .replicate 16 .reset, queue := .reset
    agenda := .reset, rules := .replicate 8 none, notices := .reset .powerOn, link := .reset .r115200
    power := .reset, inputs := 0, freeCount := 0, pending := [] }

/-- Nothing the LN16's manual describes stops the part, so the model has no fault: every refusal of a request is a
reply and so a next state. No constructor: no meaning raises one. -/
inductive Fault where
  deriving DecidableEq, Repr

/-- Why a command has no next state. -/
inductive Refusal where
  /-- The command has no meaning in this model yet. Raised by `exec` alone. Safe: nothing can be proved of it. -/
  | notModelled (mnemonic : String)
  /-- The command's operands spell nothing the outside can send: a list too long for a payload of 240 bytes (R162),
  or UNKNOWN_KIND with kind bits that name a request (DESIGN CHOICE, log entry 9). Raised by the request commands
  that carry a list
  and by UNKNOWN_KIND. Safe: the hardware can meet no such command. -/
  | malformed
  deriving DecidableEq, Repr

/-- The outcome of a command. -/
abbrev Result := Host.Outcome State Fault Refusal

end Sys2Proof.Machine
end

