-- ==== Sys2Proof/Machine/Flags.lean ====
section
/-! DEFINITION. Saturating counts, the kind mask and the hold-reason set: the small flags every block tests. -/

namespace Sys2Proof.Machine

/-- A count that stops at 2^32-1 (R59, R122, R146). -/
def satInc32 (n : Nat) : Nat := if n < 4294967295 then n + 1 else n

/-- A link counter, which stops at 65535 (R177). -/
def satInc16 (n : Nat) : Nat := if n < 65535 then n + 1 else n

/-- Whether the set of hold reasons is empty (01, section 1.5). -/
def HoldReasons.isEmpty (r : HoldReasons) : Bool := !r.pin && !r.link

/-- The position of a notice kind in the kind mask (R202); none for a kind that no mask disables (R145). -/
def NoticeBody.maskBit : NoticeBody → Option Nat
  | .captureReady .. => some 0
  | .queueWatermark .. => some 1
  | .queueLoss .. => some 2
  | .edgeDone .. => some 3
  | .slotTaken .. => some 4
  | .patternClipped .. => some 5
  | .followMiss .. => some 6
  | .followSpent .. => some 7
  | .restarted .. => none
  | .holdEntered .. => none
  | .holdLeft => none
  | .noticeLost .. => none

/-- Whether a notice of this kind is raised under the mask (R145). -/
def maskEnables (mask : Byte) (b : NoticeBody) : Bool :=
  match b.maskBit with
  | some i => mask.getLsbD i
  | none => true

/-- R18: the hold guard is ON and the hold reasons are non-empty. -/
def State.guarded (s : State) : Bool := s.timebase.holdGuard && !s.timebase.reasons.isEmpty

/-- The hold reasons are non-empty (00, "hold"). -/
def State.inHold (s : State) : Bool := !s.timebase.reasons.isEmpty

/-- Raise one link counter (R177). -/
def LinkCounters.raise (c : LinkCounters) (cause : DiscardCause) : LinkCounters :=
  match cause with
  | .badStop => { c with framing := satInc16 c.framing }
  | .lengthAbove240 => { c with length := satInc16 c.length }
  | .crcDiffers => { c with crc := satInc16 c.crc }
  | .notARequest => { c with cls := satInc16 c.cls }

end Sys2Proof.Machine
end

