-- ==== Sys2Proof/Machine/Operands.lean ====
section
/-! DEFINITION. The codes of the enumerated fields, read and written (R195), and the levels of pins. A byte with no
code for its field reads as none, and the owning block refuses it with BAD_FIELD. -/

namespace Sys2Proof.Machine

/-! ## Reading -/

def readFlag : Byte → Option Bool
  | 0 => some false
  | 1 => some true
  | _ => none

def readLine (b : Byte) : Option LineId := if h : b.toNat < 16 then some ⟨b.toNat, h⟩ else none

def readRuleId (b : Byte) : Option RuleId := if h : b.toNat < 8 then some ⟨b.toNat, h⟩ else none

def readLevel : Byte → Option Level
  | 0 => some .low
  | 1 => some .high
  | _ => none

def readCapturePolarity : Byte → Option CapturePolarity
  | 0 => some .rise
  | 1 => some .fall
  | 2 => some .both
  | _ => none

def readFollowPolarity : Byte → Option FollowPolarity
  | 0 => some .rise
  | 1 => some .fall
  | 2 => some .either
  | _ => none

def readHoldAction : Byte → Option HoldAction
  | 0 => some .freeze
  | 1 => some .forceLow
  | 2 => some .forceHigh
  | _ => none

/-- A pattern edge's action: codes 0 to 2 (R195). -/
def readLevelAction : Byte → Option LevelAction
  | 0 => some .set
  | 1 => some .clear
  | 2 => some .toggle
  | _ => none

/-- A boundary action: codes 0, 1, 2 and 5 (R195). -/
def readBoundaryAction (b : Byte) : Option BoundaryAction :=
  if b = 5 then some .keep else (readLevelAction b).map .act

/-- The action and width of an order or a follow rule: codes 0 to 4; a pulse's width is 1 to 16,777,215 and a single
action's width is not examined (R82, R124, R195). -/
def readAction (code : Byte) (width : Span) : Option Action :=
  match code with
  | 0 => some (.single .set)
  | 1 => some (.single .clear)
  | 2 => some (.single .toggle)
  | 3 => if width = 0 then none else some (.pulse .high width)
  | 4 => if width = 0 then none else some (.pulse .low width)
  | _ => none

/-- A slot of WRITE_SLOT: A or B (R107). -/
def readSlot : Byte → Option SlotSel
  | 1 => some .slotA
  | 2 => some .slotB
  | _ => none

def readRetrigger : Byte → Option Retrigger
  | 0 => some .restart
  | 1 => some .ignore
  | _ => none

def readFollowLate : Byte → Option FollowLate
  | 0 => some .fireNow
  | 1 => some .miss
  | _ => none

/-- The mode of SET_LINE with the settings of that mode; the settings of other modes are not examined (R27). -/
def readMode (mode polarity : Byte) (filter : Half) (idle holdAction : Byte) : Option LineMode :=
  match mode with
  | 0 => some .off
  | 1 =>
      match readCapturePolarity polarity with
      | some p => if filter.toNat ≤ 1023 then some (.capture p filter.toNat) else none
      | none => none
  | 2 =>
      match readLevel idle, readHoldAction holdAction with
      | some i, some h => some (.drive i h)
      | _, _ => none
  | _ => none

/-- The rate RATE1 and RATE0 select (R160). -/
def readRate : Bool → Bool → Rate
  | false, false => .r115200
  | false, true => .r460800
  | true, false => .r1000000
  | true, true => .r3000000

/-- The number of a rate (R160). -/
def Rate.bitsPerSecond : Rate → Nat
  | .r115200 => 115200
  | .r460800 => 460800
  | .r1000000 => 1000000
  | .r3000000 => 3000000

/-! ## Characters on RXD and TXD (R160, R161) -/

/-- The level that carries a bit. -/
def bitLevel (bit : Bool) : Level := if bit then .high else .low

/-- A character, one level a bit time: the start bit low, eight data bits with the least significant first, the stop bit
high, no parity bit (R160). -/
def characterLevels (b : Byte) : List Level :=
  .low :: (List.range 8).map (fun k => bitLevel (b.getLsbD k)) ++ [.high]

/-- What the receiver makes of the ten levels it samples from the start bit on: the value, and whether the stop bit was
found high (R161). These two are the operands of CHARACTER_RECEIVED. None where the first level is no start bit. -/
def readCharacter : List Level → Option (Byte × Bool)
  | [.low, d0, d1, d2, d3, d4, d5, d6, d7, stop] =>
      some
        (BitVec.ofBoolListLE
          [d0 == .high, d1 == .high, d2 == .high, d3 == .high, d4 == .high, d5 == .high, d6 == .high, d7 == .high],
        stop == .high)
  | _ => none

/-- The level found on a TL pin. -/
def pinLevel (pins : Half) (i : LineId) : Level := if pins.getLsbD i.val then .high else .low

/-! ## Writing -/

def flagCode (b : Bool) : Byte := if b then 1 else 0

def lineCode (i : LineId) : Byte := BitVec.ofNat 8 i.val

def ruleCode (k : RuleId) : Byte := BitVec.ofNat 8 k.val

def Level.code : Level → Byte
  | .low => 0
  | .high => 1

/-- A level that may be absent: 0xFF. -/
def levelCode? : Option Level → Byte
  | some l => l.code
  | none => 0xFF

def CapturePolarity.code : CapturePolarity → Byte
  | .rise => 0
  | .fall => 1
  | .both => 2

def FollowPolarity.code : FollowPolarity → Byte
  | .rise => 0
  | .fall => 1
  | .either => 2

def Edge.code : Edge → Byte
  | .rise => 0
  | .fall => 1

def HoldAction.code : HoldAction → Byte
  | .freeze => 0
  | .forceLow => 1
  | .forceHigh => 2

def LevelAction.code : LevelAction → Byte
  | .set => 0
  | .clear => 1
  | .toggle => 2

def BoundaryAction.code : BoundaryAction → Byte
  | .keep => 5
  | .act a => a.code

def Action.code : Action → Byte
  | .single a => a.code
  | .pulse .high _ => 3
  | .pulse .low _ => 4

/-- The width field of a record: 0 for a single action (R195). -/
def Action.widthField : Action → Span
  | .single _ => 0
  | .pulse _ w => w

def Phase.code : Phase → Byte
  | .lead => 0
  | .trail => 1

/-- A phase that may be none: 0xFF. -/
def phaseCode? : Option Phase → Byte
  | some p => p.code
  | none => 0xFF

def SlotSel.code : SlotSel → Byte
  | .noSlot => 0
  | .slotA => 1
  | .slotB => 2

/-- A pending takeover that may be absent: 0xFF. -/
def takeoverCode? : Option SlotSel → Byte
  | some t => t.code
  | none => 0xFF

def FollowLate.code : FollowLate → Byte
  | .fireNow => 0
  | .miss => 1

def Retrigger.code : Retrigger → Byte
  | .restart => 0
  | .ignore => 1

def Origin.code : Origin → Byte
  | .host => 0
  | .follow k => BitVec.ofNat 8 (16 + k.val)

def TimebaseState.code : TimebaseState → Byte
  | .stopped => 0
  | .running => 1
  | .held => 2

def HoldReasons.code (r : HoldReasons) : Byte := (if r.pin then 1 else 0) ||| (if r.link then 2 else 0)

def RuleState.code : RuleState → Byte
  | .empty => 0
  | .disarmed => 1
  | .armed => 2
  | .spent => 3

def MissReason.code : MissReason → Byte
  | .targetMode => 0
  | .late => 1
  | .busy => 2
  | .agendaFull => 3

def RestartCause.code : RestartCause → Byte
  | .powerOn => 0
  | .resetPin => 1
  | .restartRequest => 2

def OrderOutcome.code : OrderOutcome → Byte
  | .queued => 0
  | .firedLate => 1

/-- R197. -/
def ResultCode.code : ResultCode → Byte
  | .ok => 0x00
  | .cancelled => 0x01
  | .unknownKind => 0x10
  | .badLength => 0x11
  | .badField => 0x12
  | .held => 0x13
  | .wrongState => 0x14
  | .lineMode => 0x15
  | .slotActive => 0x16
  | .agendaFull => 0x17
  | .tagInUse => 0x18
  | .tagReserved => 0x19
  | .late => 0x1A
  | .notFound => 0x1B
  | .alreadyFired => 0x1C
  | .notInQueue => 0x1D
  | .notRead => 0x1E
  | .notSent => 0x1F
  | .busy => 0x20
  | .timeout => 0x21

end Sys2Proof.Machine
end

