-- ==== Sys2Proof/Machine/Ops.lean ====
section
/-! DEFINITION. The operations the blocks share: time comparisons, levels and actions, the Capture Queue's and the
agenda's positions, raising a notice, testing the deferred AWAIT, and the transmitter's choice. -/

namespace Sys2Proof.Machine

/-! ## Time (R3) -/

/-- The distance from `now` forward to `x`, modulo 2^48 (R3). -/
def distance (x now : Stamp) : Nat := (x - now).toNat

inductive TimeClass where
  | future
  | late
  | beyond
  deriving DecidableEq, Repr

/-- R3's three classes. -/
def classify (x now : Stamp) : TimeClass :=
  let d := distance x now
  if 1 ≤ d ∧ d ≤ 2 ^ 40 - 1 then .future
  else if d = 0 ∨ 2 ^ 48 - 2 ^ 40 + 1 ≤ d then .late
  else .beyond

/-- A time a span after another. -/
def after (t : Stamp) (w : Span) : Stamp := t + w.setWidth 48

/-- TL0 to TL15 in ascending order. -/
def lineIds : List LineId := [0, 1, 2, 3, 4, 5, 6, 7, 8, 9, 10, 11, 12, 13, 14, 15]

/-- The follow rules in ascending id. -/
def ruleIds : List RuleId := [0, 1, 2, 3, 4, 5, 6, 7]

/-! ## Levels and actions (R25, R31, R32) -/

def Level.opposite : Level → Level
  | .low => .high
  | .high => .low

/-- R25's table. -/
def LevelAction.apply : LevelAction → Level → Level
  | .set, _ => .high
  | .clear, _ => .low
  | .toggle, l => l.opposite

/-- The action that makes a level (R25). -/
def Level.action : Level → LevelAction
  | .low => .clear
  | .high => .set

/-- What an entry's action does at its expiry in LEAD (R88, R89). -/
def Action.leadAction : Action → LevelAction
  | .single a => a
  | .pulse lead _ => lead.action

/-- What an entry's action does at its expiry in TRAIL (R90): the level opposite to the pulse level. -/
def Action.trailAction : Action → LevelAction
  | .single a => a
  | .pulse lead _ => lead.opposite.action

def Action.isPulse : Action → Bool
  | .single _ => false
  | .pulse .. => true

def LineMode.isDrive : LineMode → Bool
  | .drive .. => true
  | .off => false
  | .capture .. => false

def Line.isDrive (l : Line) : Bool := l.mode.isDrive

/-- An action acts on the saved level during hold and on the line level outside it (R25, R32). -/
def Line.act (a : LevelAction) (l : Line) : Line :=
  match l.saved with
  | some v => { l with saved := some (a.apply v) }
  | none => { l with level := l.level.map a.apply }

/-- The level a drive line shows; none where the pin is not driven (R25, R31). -/
def Line.shown (l : Line) : Option Level :=
  match l.mode with
  | .drive _ holdAction =>
      if l.saved.isSome then
        match holdAction with
        | .freeze => l.frozen
        | .forceLow => some .low
        | .forceHigh => some .high
      else l.level
  | .off => none
  | .capture .. => none

def State.line (s : State) (i : LineId) : Line := s.lines.get i

def State.setLine (s : State) (i : LineId) (l : Line) : State := { s with lines := s.lines.set i l }

/-- Give an action to a line (R25, R33, R35). -/
def State.actOn (s : State) (i : LineId) (a : LevelAction) : State := s.setLine i ((s.line i).act a)

/-- What the pin of a line shows; none where it is an input or high-impedance. While the hardware reset lasts every
line is high-impedance (R38). -/
def State.pinShown (s : State) (i : LineId) : Option Level :=
  if s.power.inReset then none else (s.line i).shown

/-! ## Capture Queue positions (R55, R56) -/

def QueueEntry.qseq : QueueEntry → Half
  | .capture q _ _ _ _ => q
  | .gap q _ _ => q

/-- H: the qseq of the oldest entry, or next qseq when the queue is empty. -/
def CaptureQueue.head (q : CaptureQueue) : Half :=
  match q.entries with
  | e :: _ => e.qseq
  | [] => q.nextQseq

def CaptureQueue.position (q : CaptureQueue) (x : Half) : Nat := (x - q.head).toNat

/-- The unread count: the number held minus the read pointer's position. -/
def CaptureQueue.unread (q : CaptureQueue) : Nat := q.entries.length - q.position q.readPointer

/-! ## Edge Agenda lists (R78, R80, R92) -/

def Agenda.free (a : Agenda) : Nat := Config.agendaCapacity - a.entries.length

def Agenda.find (a : Agenda) (tag : Half) : Option AgendaEntry := a.entries.find? (·.tag == tag)

/-- After every entry whose due is nearer or equal, before every entry whose due is further (R80). -/
def insertByDistance (now : Stamp) (e : AgendaEntry) : List AgendaEntry → List AgendaEntry
  | [] => [e]
  | x :: xs => if distance x.due now ≤ distance e.due now then x :: insertByDistance now e xs else e :: x :: xs

def Agenda.insert (a : Agenda) (now : Stamp) (e : AgendaEntry) : Agenda :=
  { a with entries := insertByDistance now e a.entries }

def Agenda.remove (a : Agenda) (tag : Half) : Agenda := { a with entries := a.entries.filter (·.tag != tag) }

/-- R92's three steps. -/
def recordTag (tag : Half) (history : List Half) : List Half :=
  tag :: (history.filter (· != tag)).take (Config.historyCapacity - 1)

def Agenda.record (a : Agenda) (tag : Half) : Agenda := { a with history := recordTag tag a.history }

/-- The entries that name a line. -/
def Agenda.onLine (a : Agenda) (i : LineId) : List AgendaEntry := a.entries.filter (·.line == i)

/-- Remove every entry that names a line (R96, R98). -/
def Agenda.removeLine (a : Agenda) (i : LineId) : Agenda := { a with entries := a.entries.filter (·.line != i) }

def State.insertEntry (s : State) (e : AgendaEntry) : State :=
  { s with agenda := s.agenda.insert s.timebase.time e }

def State.removeEntry (s : State) (tag : Half) : State := { s with agenda := s.agenda.remove tag }

def State.recordFired (s : State) (tag : Half) : State := { s with agenda := s.agenda.record tag }

/-! ## Raising a notice (R144 to R146) -/

/-- The record of a notice just appended: UNSENT, no repeat mark (R142). -/
def freshNotice (nseq : Half) (stamp : Stamp) (body : NoticeBody) : Notice :=
  { content := { nseq := nseq, stamp := stamp, body := body }, sent := false, mark := false }

/-- Append a record with nseq from next nseq (R142). -/
def NoticeQueue.append (q : NoticeQueue) (now : Stamp) (body : NoticeBody) : NoticeQueue :=
  { q with records := q.records ++ [freshNotice q.nextNseq now body], nextNseq := q.nextNseq + 1 }

/-- Whether a record is a NOTICE_LOST that is UNSENT; then its count (R146 case 1). -/
def Notice.openLoss (n : Notice) : Option Nat :=
  match n.content.body, n.sent with
  | .noticeLost count, false => some count
  | _, _ => none

/-- A NOTICE_LOST record with its count replaced. -/
def Notice.withLoss (n : Notice) (count : Nat) : Notice :=
  { n with content := { n.content with body := .noticeLost count } }

/-- Count an ordinary notice that 31 or more records shut out (R146). -/
def NoticeQueue.lose (q : NoticeQueue) (now : Stamp) : NoticeQueue :=
  match q.records.getLast?.bind (fun n => n.openLoss.map (n.withLoss <| satInc32 ·)) with
  | some n => { q with records := q.records.dropLast ++ [n] }
  | none =>
      if q.records.length = Config.ordinaryCapacity then q.append now (.noticeLost 1)
      else { q with pendingLost := satInc32 q.pendingLost }

/-- Raise an ordinary notice at T = `now` (R144, R145, R146). -/
def NoticeQueue.raise (q : NoticeQueue) (now : Stamp) (body : NoticeBody) : NoticeQueue :=
  if maskEnables q.mask body then
    if q.records.length < Config.ordinaryCapacity then q.append now body else q.lose now
  else q

def State.raise (s : State) (body : NoticeBody) : State :=
  { s with notices := s.notices.raise s.timebase.time body }

/-- Raise a notice where a report flag asks for it. -/
def State.raiseIf (s : State) (report : Bool) (body : NoticeBody) : State := if report then s.raise body else s

/-- ATTN is asserted exactly while records are held (R157). -/
def State.attn (s : State) : Bool := !s.notices.records.isEmpty

/-- The head nseq H (R142). -/
def NoticeQueue.head (q : NoticeQueue) : Half :=
  match q.records with
  | n :: _ => n.content.nseq
  | [] => q.nextNseq

def NoticeQueue.position (q : NoticeQueue) (x : Half) : Nat := (x - q.head).toNat

/-! ## The deferred AWAIT (R184 to R187) -/

/-- The events at which a condition is tested (R186). -/
inductive AwaitEvent where
  /-- an agenda entry that names this line is removed. -/
  | removal (line : LineId)
  | append
  | tick
  | startZero
  | holdCleared
  deriving DecidableEq, Repr

/-- R186's table. -/
def AwaitCondition.testedAt : AwaitCondition → AwaitEvent → Bool
  | .agendaEmpty none, .removal _ => true
  | .agendaEmpty (some i), .removal j => i == j
  | .unreadAtLeast _, .append => true
  | .timeReached _, .tick => true
  | .timeReached _, .startZero => true
  | .holdClear, .holdCleared => true
  | _, _ => false

/-- The number of entries AGENDA_EMPTY counts (R185). -/
def Agenda.counted (a : Agenda) : Option LineId → Nat
  | none => a.entries.length
  | some i => (a.onLine i).length

/-- R184's table of conditions. -/
def AwaitCondition.holds (c : AwaitCondition) (s : State) : Bool :=
  match c with
  | .agendaEmpty line => s.agenda.counted line == 0
  | .unreadAtLeast n => n ≤ s.queue.unread
  | .timeReached x => classify x s.timebase.time == .late
  | .holdClear => s.timebase.reasons.isEmpty

/-- R185's table of values, as R197 lays them out. -/
def AwaitCondition.value (c : AwaitCondition) (s : State) : Nat :=
  match c with
  | .agendaEmpty line => s.agenda.counted line
  | .unreadAtLeast _ => s.queue.unread
  | .timeReached _ => 0
  | .holdClear => s.timebase.reasons.code.toNat

/-- The reply of an AWAIT, formed now (R185). -/
def AwaitCondition.reply (c : AwaitCondition) (code : ResultCode) (s : State) : Reply :=
  { code := code, data := .await s.timebase.time (c.value s) }

/-- Place the deferred reply and stop the await timer (R187). -/
def State.answerDeferred (s : State) (d : Deferred) (code : ResultCode) : State :=
  { s with link := { s.link with
      deferred := some { d with timer := none }
      deferredSlot := some { seq := d.seq, kind := 0x03, reply := d.condition.reply code s } } }

/-- The deferred request while its await timer runs, so while no reply has been placed for it. -/
def Link.awaiting (l : Link) : Option Deferred := l.deferred.filter (·.timer.isSome)

/-- Test the deferred AWAIT at an event (R186). -/
def State.awaitTest (s : State) (ev : AwaitEvent) : State :=
  match s.link.awaiting with
  | some d => if d.condition.testedAt ev && d.condition.holds s then s.answerDeferred d .ok else s
  | none => s

/-! ## The transmitter (R175) -/

/-- Take the repeat mark off the first marked record (R151). -/
def unmarkFirst : List Notice → List Notice
  | [] => []
  | n :: rest => if n.mark then { n with mark := false } :: rest else n :: unmarkFirst rest

/-- The frame the first source that offers one offers, in R175's order. -/
def State.offered (s : State) : Option TxFrame :=
  match s.link.replySlot, s.link.deferredSlot, s.notices.records.find? (!·.sent), s.notices.records.find? (·.mark) with
  | some f, _, _, _ => some (.reply f)
  | none, some f, _, _ => some (.deferredReply f)
  | none, none, some n, _ => some (.firstSending n.content)
  | none, none, none, some n => some (.repeatSending n.content)
  | none, none, none, none => none

/-- Begin a frame: its content is fixed, and a repeat's mark is removed (R151, R175). -/
def State.beginFrame (s : State) (f : TxFrame) : State :=
  let s := { s with link := { s.link with tx := .sending f } }
  match f with
  | .repeatSending _ => { s with notices := { s.notices with records := unmarkFirst s.notices.records } }
  | .reply _ => s
  | .deferredReply _ => s
  | .firstSending _ => s

/-- An IDLE transmitter begins the first frame offered (R175). -/
def State.transmit (s : State) : State :=
  match s.link.tx, s.offered with
  | .idle, some f => s.beginFrame f
  | _, _ => s

/-! ## What an owning block answers (R169 step 4) -/

/-- The state after a request and its reply; no reply when the request became the deferred one (R173). -/
abbrev Answer := State × Option Reply

/-- Refuse: no effect, the result code alone (R172, R197). -/
def refuse (code : ResultCode) (s : State) : Answer := (s, some { code := code, data := .codeOnly })

/-- Refuse with an error body. -/
def refuseWith (code : ResultCode) (data : ReplyData) (s : State) : Answer := (s, some { code := code, data := data })

/-- Accept with OK and the data of the kind. -/
def accept (data : ReplyData) (s : State) : Answer := (s, some { code := .ok, data := data })

/-! ## The frame of every command -/

/-- Run an event of the part. While the hardware reset lasts no block acts (R178, R193; DESIGN CHOICE, log entry 11).
An idle
transmitter chooses at the end of the step (DESIGN CHOICE, log entry 7). -/
def event (f : State → State) (s : State) : Result :=
  .next (if s.power.inReset then s else (f s).transmit)

/-- An event that may be unable to occur: then nothing happens (DESIGN CHOICE, log entry 6). -/
def eventIf (enabled : State → Bool) (f : State → State) (s : State) : Result :=
  if enabled s then event f s else .next s

end Sys2Proof.Machine
end

