-- ==== Sys2Proof/Machine/Agenda.lean ====
section
/-! DEFINITION. The Edge Agenda (chapter 5): SCHEDULE, CANCEL, LIST_AGENDA and the expiries of a tick. -/

namespace Sys2Proof.Machine

/-! ## Expiry (R87 to R91) -/

/-- Remove an entry that took effect or was cancelled, and test AGENDA_EMPTY (R186). -/
def State.dropEntry (s : State) (e : AgendaEntry) : State := (s.removeEntry e.tag).awaitTest (.removal e.line)

/-- EDGE_DONE of an entry whose report flag is ON (R91). -/
def State.edgeDone (s : State) (e : AgendaEntry) (phase : Phase) : State :=
  s.raiseIf e.report (.edgeDone e.tag e.line s.timebase.time phase)

/-- R88: a single action takes effect. -/
def State.expireSingle (s : State) (e : AgendaEntry) : State :=
  (((s.actOn e.line e.action.leadAction).recordFired e.tag).edgeDone e .lead).dropEntry e

/-- The entry of a pulse in its TRAIL phase, `width` after `now` (R85, R89). -/
def AgendaEntry.trailAt (e : AgendaEntry) (now : Stamp) (width : Span) : AgendaEntry :=
  { e with due := after now width, phase := .trail }

/-- R89: a pulse's lead takes effect and the entry is re-keyed to its trail. -/
def State.expireLead (s : State) (e : AgendaEntry) (width : Span) : State :=
  (((s.actOn e.line e.action.leadAction).removeEntry e.tag).insertEntry (e.trailAt s.timebase.time width)).edgeDone e
    .lead

/-- R90: a pulse's trail takes effect. -/
def State.expireTrail (s : State) (e : AgendaEntry) : State :=
  (((s.actOn e.line e.action.trailAction).recordFired e.tag).edgeDone e .trail).dropEntry e

/-- One expiry (R87). -/
def State.expire (s : State) (e : AgendaEntry) : State :=
  match e.action, e.phase with
  | .single _, _ => s.expireSingle e
  | .pulse _ w, .lead => s.expireLead e w
  | .pulse _ _, .trail => s.expireTrail e

/-- The entries due at T, in agenda order (R87). -/
def State.dueNow (s : State) : List AgendaEntry := s.agenda.entries.filter (·.due == s.timebase.time)

/-- The expiries of one tick (R87). -/
def State.expireDue (s : State) : State := s.dueNow.foldl State.expire s

/-! ## SCHEDULE (R82 to R86) -/

/-- An order with its fields read (R82). -/
structure Order where
  tag : Half
  line : LineId
  due : Stamp
  action : Action
  /-- The late policy is FIRE_NOW. -/
  fireNow : Bool
  report : Bool
  deriving DecidableEq, Repr

/-- R82's range check of one order; late policy FIRE_NOW is code 0 and REFUSE is code 1 (R195). -/
def readOrder (o : RawOrder) : Option Order :=
  match readLine o.line, readAction o.action o.width, readFlag o.late, readFlag o.report with
  | some line, some action, some refuses, some report =>
      some { tag := o.tag, line := line, due := o.due, action := action, fireNow := !refuses, report := report }
  | _, _, _, _ => none

/-- Every order read, or the index of the first that fails R82 (counted from `at`). -/
def readBatch (index : Nat) : List RawOrder → Except Nat (List Order)
  | [] => .ok []
  | o :: rest =>
      match readOrder o with
      | none => .error index
      | some order =>
          match readBatch (index + 1) rest with
          | .ok orders => .ok (order :: orders)
          | .error k => .error k

/-- Check 3 of R83: the first order whose tag is held or repeats an earlier order's. -/
def firstTagClash (index : Nat) (taken : List Half) : List Order → Option Nat
  | [] => none
  | o :: rest => if taken.contains o.tag then some index else firstTagClash (index + 1) (o.tag :: taken) rest

/-- The agenda entries an order needs at T (R83 check 7). -/
def Order.need (o : Order) (now : Stamp) : Nat :=
  if classify o.due now = .future then 1 else if o.action.isPulse then 1 else 0

/-- Check 7 of R83: the first order at which the running total exceeds the free entries. -/
def firstOverflow (now : Stamp) (index free : Nat) : List Order → Option Nat
  | [] => none
  | o :: rest => if free < o.need now then some index else firstOverflow now (index + 1) (free - o.need now) rest

/-- Checks 2 to 7 of R83 in their order, each over the whole batch: the result code and the index of the failing order. -/
def batchFault (s : State) (orders : List Order) : Option (ResultCode × Nat) :=
  let now := s.timebase.time
  (orders.findIdx? fun o => 0xF000 ≤ o.tag.toNat).map (.tagReserved, ·)
    <|> (firstTagClash 0 (s.agenda.entries.map (·.tag)) orders).map (.tagInUse, ·)
    <|> (orders.findIdx? fun o => !(s.line o.line).isDrive).map (.lineMode, ·)
    <|> (orders.findIdx? fun o => classify o.due now == .beyond).map (.badField, ·)
    <|> (orders.findIdx? fun o => classify o.due now == .late && !o.fireNow).map (.late, ·)
    <|> (firstOverflow now 0 s.agenda.free orders).map (.agendaFull, ·)

/-- The entry an order places, in LEAD at its due (R84). -/
def Order.entry (o : Order) : AgendaEntry :=
  { tag := o.tag, line := o.line, due := o.due, action := o.action, phase := .lead, origin := .host, report := o.report }

/-- R85: a late FIRE_NOW order is applied at once. -/
def State.fireLate (s : State) (o : Order) : State :=
  let s' := s.actOn o.line o.action.leadAction
  match o.action with
  | .single _ => (s'.recordFired o.tag).edgeDone o.entry .lead
  | .pulse _ w => (s'.insertEntry (o.entry.trailAt s.timebase.time w)).edgeDone o.entry .lead

/-- R84: one order of an accepted batch. -/
def State.carryOut (s : State) (o : Order) : State :=
  if classify o.due s.timebase.time = .future then s.insertEntry o.entry else s.fireLate o

/-- What the reply says of an order (R84). -/
def Order.outcome (o : Order) (now : Stamp) : OrderOutcome :=
  if classify o.due now = .future then .queued else .firedLate

/-- The reply of an accepted SCHEDULE. -/
def scheduledReply (outcomes : List OrderOutcome) (s : State) : Answer :=
  accept (.scheduled s.agenda.free outcomes) s

/-- A refusal of SCHEDULE by the agenda: failing index and free entries (R83, R197). -/
def scheduleRefusal (code : ResultCode) (index : Nat) (s : State) : Answer :=
  refuseWith code (.scheduleError index s.agenda.free) s

/-- SCHEDULE (R82 to R86). -/
def scheduleRequest (orders : List RawOrder) (s : State) : Answer :=
  if orders.length = 0 ∨ 8 < orders.length then scheduleRefusal .badField 0 s
  else
    match readBatch 0 orders with
    | .error k => scheduleRefusal .badField k s
    | .ok batch =>
        if s.guarded then scheduleRefusal .held 0 s
        else
          match batchFault s batch with
          | some (code, k) => scheduleRefusal code k s
          | none => scheduledReply (batch.map (·.outcome s.timebase.time)) (batch.foldl State.carryOut s)

/-! ## CANCEL (R93, R94) -/

/-- R94: the entry is removed; with complete trail a pulse in TRAIL has its trail applied first (R33). -/
def State.cancelEntry (s : State) (e : AgendaEntry) (complete : Bool) : State :=
  (if complete && e.phase == .trail then s.actOn e.line e.action.trailAction else s).dropEntry e

/-- CANCEL (R93, R94). -/
def cancelRequest (tag : Half) (complete : Byte) (s : State) : Answer :=
  match readFlag complete with
  | none => refuse .badField s
  | some c =>
      if s.guarded then refuse .held s
      else if 0xF008 ≤ tag.toNat then refuse .tagReserved s
      else
        match s.agenda.find tag with
        | some e => refuseWith .cancelled (.cancelled e.phase) (s.cancelEntry e c)
        | none => if s.agenda.history.contains tag then refuse .alreadyFired s else refuse .notFound s

/-! ## LIST_AGENDA (R97) -/

/-- LIST_AGENDA (R97). -/
def listAgendaRequest (first count : Byte) (s : State) : Answer :=
  if count.toNat < 1 ∨ 12 < count.toNat then refuse .badField s
  else
    accept (.agenda s.timebase.time s.agenda.entries.length
      ((s.agenda.entries.drop first.toNat).take count.toNat)) s

end Sys2Proof.Machine
end

