-- ==== Sys2Proof/Machine/Follow.lean ====
section
/-! DEFINITION. Follow rules (chapter 7): the five requests on a rule, and the match of a capture. -/

namespace Sys2Proof.Machine

/-- Tag 0xF000 + k (R77). -/
def followTag (k : RuleId) : Half := 0xF000 + BitVec.ofNat 16 k.val

def State.rule (s : State) (k : RuleId) : Option FollowRule := s.rules.get k

def State.setRule (s : State) (k : RuleId) (r : Option FollowRule) : State := { s with rules := s.rules.set k r }

def RuleStatus.state : RuleStatus → RuleState
  | .disarmed => .disarmed
  | .armed => .armed
  | .spent => .spent

/-- A rule's state; EMPTY when it holds no settings (R122, R123). -/
def ruleStateOf (r : Option FollowRule) : RuleState :=
  match r with
  | some r => r.status.state
  | none => .empty

/-! ## Requests -/

/-- R139: a rule whole, with its agenda entry. For an EMPTY rule the entry is absent. -/
def State.ruleRecord (s : State) (k : RuleId) : RuleRecord :=
  match s.rule k with
  | some r =>
      { id := k, state := r.status.state, settings := some r.settings, shotsRemaining := r.shotsRemaining
        fires := r.fires, misses := r.misses
        entry := (s.agenda.find (followTag k)).map fun e => (e.phase, e.due) }
  | none =>
      { id := k, state := .empty, settings := none, shotsRemaining := 0, fires := 0, misses := 0, entry := none }

/-- R124 check 1 on the settings. -/
def readFollow (f : RawFollow) : Option FollowSettings :=
  match readLine f.source, readFollowPolarity f.polarity, readLine f.target, readAction f.action f.width,
    readRetrigger f.retrigger, readFollowLate f.late, readFlag f.report with
  | some source, some polarity, some target, some action, some retrigger, some late, some report =>
      if target = source ∨ f.delay = 0 then none
      else
        some { source := source, polarity := polarity, target := target, action := action, delay := f.delay
               shots := f.shots.toNat, retrigger := retrigger, late := late, report := report }
  | _, _, _, _, _, _, _ => none

/-- R125: a rule just written. -/
def freshRule (settings : FollowSettings) : FollowRule :=
  { status := .disarmed, settings := settings, shotsRemaining := settings.shots, fires := 0, misses := 0 }

/-- Whether a rule is ARMED. -/
def ruleArmed (r : Option FollowRule) : Bool :=
  match r with
  | some r => r.status == .armed
  | none => false

/-- The reply that carries the rule record (R125, R139). -/
def ruleReply (k : RuleId) (s : State) : Answer := accept (.rule (s.ruleRecord k)) s

/-- SET_FOLLOW (R124, R125). -/
def setFollowRequest (id : Byte) (settings : RawFollow) (s : State) : Answer :=
  match readRuleId id, readFollow settings with
  | some k, some f =>
      if s.guarded then refuse .held s
      else if ruleArmed (s.rule k) then refuse .wrongState s
      else ruleReply k (s.setRule k (some (freshRule f)))
  | _, _ => refuse .badField s

/-- R126: from DISARMED or SPENT the rule is armed and its shots refilled; an ARMED rule is unchanged. -/
def FollowRule.arm (r : FollowRule) : FollowRule :=
  match r.status with
  | .armed => r
  | .disarmed => { r with status := .armed, shotsRemaining := r.settings.shots }
  | .spent => { r with status := .armed, shotsRemaining := r.settings.shots }

/-- R127: an ARMED rule becomes DISARMED; a DISARMED or SPENT rule stays. -/
def FollowRule.disarm (r : FollowRule) : FollowRule :=
  match r.status with
  | .armed => { r with status := .disarmed }
  | .disarmed => r
  | .spent => r

/-- ARM_FOLLOW (R126). -/
def armFollowRequest (id : Byte) (s : State) : Answer :=
  match readRuleId id with
  | none => refuse .badField s
  | some k =>
      if s.guarded then refuse .held s
      else
        match s.rule k with
        | none => refuse .wrongState s
        | some r => accept (.armed r.arm.status.state r.arm.shotsRemaining) (s.setRule k (some r.arm))

/-- DISARM_FOLLOW (R127). -/
def disarmFollowRequest (id : Byte) (s : State) : Answer :=
  match readRuleId id with
  | none => refuse .badField s
  | some k =>
      if s.guarded then refuse .held s
      else
        match s.rule k with
        | none => refuse .wrongState s
        | some r => accept (.ruleState r.disarm.status.state) (s.setRule k (some r.disarm))

/-- R101, R128: the rule's entry is removed without its trail and the rule becomes EMPTY. -/
def State.clearRule (s : State) (k : RuleId) : State :=
  match s.agenda.find (followTag k) with
  | some e => (s.dropEntry e).setRule k none
  | none => s.setRule k none

/-- CLEAR_FOLLOW (R128). -/
def clearFollowRequest (id : Byte) (s : State) : Answer :=
  match readRuleId id with
  | none => refuse .badField s
  | some k =>
      if s.guarded then refuse .held s
      else accept (.cleared ((s.agenda.find (followTag k)).map (·.phase))) (s.clearRule k)

/-- READ_FOLLOW (R139). -/
def readFollowRequest (id : Byte) (s : State) : Answer :=
  match readRuleId id with
  | none => refuse .badField s
  | some k => ruleReply k s

/-! ## Matching a capture (R130 to R137) -/

def FollowPolarity.accepts : FollowPolarity → Edge → Bool
  | .either, _ => true
  | .rise, .rise => true
  | .fall, .fall => true
  | .rise, .fall => false
  | .fall, .rise => false

/-- R130's three conditions. -/
def FollowRule.matchesCapture (r : FollowRule) (c : Capture) : Bool :=
  r.status == .armed && r.settings.source == c.line && r.settings.polarity.accepts c.polarity

/-- R137. -/
def State.missRule (s : State) (k : RuleId) (r : FollowRule) (reason : MissReason) (c : Capture) : State :=
  (s.setRule k (some { r with misses := satInc32 r.misses })).raiseIf r.settings.report (.followMiss k reason c.stamp)

/-- R136's counts: the fire, the shot, and SPENT at the last shot. -/
def FollowRule.countFire (r : FollowRule) : FollowRule :=
  let r := { r with fires := satInc32 r.fires }
  if r.settings.shots = 0 then r
  else
    { r with shotsRemaining := r.shotsRemaining - 1
             status := if r.shotsRemaining - 1 = 0 then .spent else r.status }

/-- R136: count the fire and report the last shot. -/
def State.countFire (s : State) (k : RuleId) (r : FollowRule) : State :=
  (s.setRule k (some r.countFire)).raiseIf (r.countFire.status == .spent) (.followSpent k)

/-- The entry a fire places for its rule (R99). -/
def FollowRule.entry (r : FollowRule) (k : RuleId) (due : Stamp) (phase : Phase) : AgendaEntry :=
  { tag := followTag k, line := r.settings.target, due := due, action := r.settings.action, phase := phase
    origin := .follow k, report := r.settings.report }

/-- Place or give the edge of a fire (R136). -/
def State.placeFire (s : State) (k : RuleId) (r : FollowRule) (due : Stamp) : State :=
  if classify due s.timebase.time = .future then s.insertEntry (r.entry k due .lead)
  else
    let s' := s.actOn r.settings.target r.settings.action.leadAction
    match r.settings.action with
    | .single _ => s'
    | .pulse _ w => s'.insertEntry (r.entry k (after s.timebase.time w) .trail)

/-- R100 and R134: the entry held is removed, and a pulse in TRAIL has its trail applied. -/
def State.retrigger (s : State) (e : AgendaEntry) : State :=
  (if e.phase = .trail then s.actOn e.line e.action.trailAction else s).removeEntry e.tag

/-- R135 and R136: the capacity test and the fire. The second component says whether the rule fired. -/
def State.tryFire (s : State) (k : RuleId) (r : FollowRule) (due : Stamp) (c : Capture) : State × Bool :=
  if (classify due s.timebase.time = .future ∨ r.settings.action.isPulse = true) ∧ s.agenda.free = 0 then
    (s.missRule k r .agendaFull c, false)
  else ((s.placeFire k r due).countFire k r, true)

/-- R134: the retrigger test. AGENDA_EMPTY is tested for a removal by retrigger after any insertion of the match
(R186). -/
def State.retriggerTest (s : State) (k : RuleId) (r : FollowRule) (due : Stamp) (c : Capture) : State × Bool :=
  match s.agenda.find (followTag k), r.settings.retrigger with
  | none, _ => s.tryFire k r due c
  | some _, .ignore => (s.missRule k r .busy c, false)
  | some e, .restart =>
      let out := (s.retrigger e).tryFire k r due c
      (out.1.awaitTest (.removal e.line), out.2)

/-- R132 to R136 for a rule that matches. -/
def State.matchRule (s : State) (k : RuleId) (r : FollowRule) (c : Capture) : State × Bool :=
  let due := after c.stamp r.settings.delay
  if !(s.line r.settings.target).isDrive then (s.missRule k r .targetMode c, false)
  else if classify due s.timebase.time ≠ .future ∧ r.settings.late = .miss then (s.missRule k r .late c, false)
  else s.retriggerTest k r due c

/-- R130: one rule tried against a capture; the rules that fired so far are carried along. -/
def tryRule (c : Capture) (acc : State × List RuleId) (k : RuleId) : State × List RuleId :=
  match acc.1.rule k with
  | some r =>
      if r.matchesCapture c then
        let out := acc.1.matchRule k r c
        (out.1, if out.2 then acc.2 ++ [k] else acc.2)
      else acc
  | none => acc

/-- R130: a capture over all eight rules; the fired set in ascending id. -/
def State.matchCapture (s : State) (c : Capture) : State × List RuleId := ruleIds.foldl (tryRule c) (s, [])

end Sys2Proof.Machine
end

