-- ==== Sys2Proof/Machine/Notices.lean ====
section
/-! DEFINITION. The Notice Queue (chapter 8): ACK_NOTICES, SET_NOTICES, the completions of notice frames and the
repeat timer. -/

namespace Sys2Proof.Machine

/-! ## ACK_NOTICES (R153, R154) -/

/-- The nseq of the newest SENT record; the SENT records stand together at the head (R149). -/
def NoticeQueue.newestSent (q : NoticeQueue) : Option Half := (q.records.filter (·.sent)).getLast?.map (·.content.nseq)

/-- Some record is SENT. -/
def NoticeQueue.anySent (q : NoticeQueue) : Bool := q.records.any (·.sent)

/-- Step 2 of R154: a pending-lost count above 0 becomes a NOTICE_LOST. -/
def NoticeQueue.reportLost (q : NoticeQueue) (now : Stamp) : NoticeQueue :=
  if 0 < q.pendingLost then { q.append now (.noticeLost q.pendingLost) with pendingLost := 0 } else q

/-- Step 3 of R154, with R150: the timer after an accepted acknowledgement. -/
def NoticeQueue.retime (q : NoticeQueue) : NoticeQueue :=
  { q with timer := if q.records.isEmpty || q.interval == 0 then none else some 0 }

/-- R154: the records from the head through position `p` are acknowledged at T = `now`. -/
def NoticeQueue.acknowledge (q : NoticeQueue) (now : Stamp) (p : Nat) : NoticeQueue :=
  ({ q with records := q.records.drop (p + 1) }.reportLost now).retime

/-- The report every ACK_NOTICES carries (R154). -/
def NoticeQueue.report (q : NoticeQueue) (removed : Nat) : ReplyData :=
  .acknowledged removed q.records.length q.head q.newestSent

/-- The reply of an accepted ACK_NOTICES. -/
def acknowledgedReply (removed : Nat) (s : State) : Answer := accept (s.notices.report removed) s

/-- ACK_NOTICES (R153, R154). -/
def ackNoticesRequest (upto : Half) (s : State) : Answer :=
  match s.notices.records[s.notices.position upto]? with
  | none => refuseWith .notFound (s.notices.report 0) s
  | some n =>
      if n.sent then
        acknowledgedReply (s.notices.position upto + 1)
          { s with notices := s.notices.acknowledge s.timebase.time (s.notices.position upto) }
      else refuseWith .notSent (s.notices.report 0) s

/-! ## SET_NOTICES (R156) -/

/-- Remove every repeat mark. -/
def unmarkAll (records : List Notice) : List Notice := records.map fun n => { n with mark := false }

/-- R156: mask, interval, and what the new interval does to the timer and the marks. -/
def NoticeQueue.configure (q : NoticeQueue) (mask interval : Byte) : NoticeQueue :=
  let q := { q with mask := mask, interval := interval }
  if interval = 0 then { q with timer := none, records := unmarkAll q.records }
  else { q with timer := if q.anySent then some 0 else none }

/-- The reply of SET_NOTICES. -/
def noticesReply (s : State) : Answer :=
  accept (.notices s.notices.mask s.notices.interval s.notices.records.length s.notices.pendingLost) s

/-- SET_NOTICES (R156). -/
def setNoticesRequest (mask interval : Byte) (s : State) : Answer :=
  noticesReply { s with notices := s.notices.configure mask interval }

/-! ## Completions of notice frames (R148, R150, R151) -/

/-- The transmitter becomes IDLE (R175). -/
def State.endFrame (s : State) : State := { s with link := { s.link with tx := .idle } }

/-- R148: the record becomes SENT if it still is what its frame carried. A NOTICE_LOST whose count rose during the
frame differs from it and stays UNSENT. -/
def markSent (c : NoticeContent) (records : List Notice) : List Notice :=
  records.map fun n => if n.content = c then { n with sent := true } else n

/-- A first sending of `c` completes (R148, R150). -/
def NoticeQueue.settle (q : NoticeQueue) (c : NoticeContent) : NoticeQueue :=
  let completed := q.records.any fun n => n.content = c
  { q with
    records := markSent c q.records
    timer := if completed && q.timer.isNone && q.interval != 0 then some 0 else q.timer }

/-- The content of the notice whose first sending is in transmission. -/
def Transmitter.firstSent : Transmitter → Option NoticeContent
  | .sending (.firstSending c) => some c
  | .sending (.reply _) => none
  | .sending (.deferredReply _) => none
  | .sending (.repeatSending _) => none
  | .idle => none

/-- The content of the notice whose repeat is in transmission. -/
def Transmitter.repeated : Transmitter → Option NoticeContent
  | .sending (.repeatSending c) => some c
  | .sending (.reply _) => none
  | .sending (.deferredReply _) => none
  | .sending (.firstSending _) => none
  | .idle => none

/-- The first sending in transmission completes. -/
def State.noticeSent (s : State) : State :=
  match s.link.tx.firstSent with
  | some c => { s with notices := s.notices.settle c }.endFrame
  | none => s

/-- NOTICE_FRAME_COMPLETE (R148). -/
def execNoticeFrameComplete (s : State) : Result := eventIf (fun s => s.link.tx.firstSent.isSome) State.noticeSent s

/-- REPEAT_FRAME_COMPLETE (R151): the record is unchanged. -/
def execRepeatFrameComplete (s : State) : Result := eventIf (fun s => s.link.tx.repeated.isSome) State.endFrame s

/-! ## The repeat timer (R150, R151) -/

/-- Every SENT record receives a repeat mark (R151). -/
def markRepeats (records : List Notice) : List Notice := records.map fun n => { n with mark := n.mark || n.sent }

/-- The repeat timer expires (R150, R151). -/
def NoticeQueue.expire (q : NoticeQueue) : NoticeQueue :=
  if q.anySent then { q with records := markRepeats q.records, timer := some 0 } else { q with timer := none }

/-- The expiry of the repeat timer. -/
def State.repeatExpiry (s : State) : State := { s with notices := s.notices.expire }

/-- REPEAT_TIMER_EXPIRY (R151). -/
def execRepeatTimerExpiry (s : State) : Result := eventIf (fun s => s.notices.timer.isSome) State.repeatExpiry s

end Sys2Proof.Machine
end

