-- ==== Sys2Proof/Machine/Patterns.lean ====
section
/-! DEFINITION. Cyclic patterns (chapter 6): WRITE_SLOT, CLEAR_PATTERN, and steps 1 and 2 of a line's tick (R35). -/

namespace Sys2Proof.Machine

/-- A slot's content; none for NONE and for an EMPTY slot (R105). -/
def Line.slot (l : Line) : SlotSel → Option Pattern
  | .noSlot => none
  | .slotA => l.slotA
  | .slotB => l.slotB

/-- The pattern that acts on the line (R106). -/
def Line.activePattern (l : Line) : Option Pattern := l.slot l.active

/-- The edges of the active pattern at or beyond a length (R116, R117). -/
def Line.clippedCount (l : Line) (length : Nat) : Nat :=
  match l.activePattern with
  | some p => (p.edges.filter fun e => length ≤ e.offset).length
  | none => 0

/-- Raise PATTERN_CLIPPED for a drive line whose active pattern has edges at or beyond L (R116, R117). -/
def State.clipNotice (s : State) (i : LineId) : State :=
  let l := s.line i
  let count := l.clippedCount s.timebase.length
  s.raiseIf (l.isDrive && 1 ≤ count) (.patternClipped i l.active count)

/-! ## At a tick -/

/-- R112: the pending takeover becomes the active slot, and SLOT_TAKEN is raised. -/
def State.takeOver (s : State) (i : LineId) : State :=
  match (s.line i).takeover with
  | some t => (s.setLine i { s.line i with active := t, takeover := none }).raise (.slotTaken i t s.timebase.cycle)
  | none => s

/-- R113: the boundary action of the active pattern. -/
def State.boundaryAct (s : State) (i : LineId) : State :=
  match (s.line i).activePattern with
  | some { boundary := .act a, .. } => s.actOn i a
  | some { boundary := .keep, .. } => s
  | none => s

/-- Step 1 of R35 at a cycle boundary. `lengthTaken` says that a staged length took effect at it (R116). -/
def State.boundaryStep (lengthTaken : Bool) (s : State) (i : LineId) : State :=
  if (s.line i).isDrive then
    let took := (s.line i).takeover.isSome
    let s1 := s.takeOver i
    let s2 := if took || lengthTaken then s1.clipNotice i else s1
    s2.boundaryAct i
  else s

/-- Step 2 of R35: the edge of the active pattern at the tick's offset (R114). -/
def State.patternEdge (s : State) (i : LineId) : State :=
  if (s.line i).isDrive then
    match (s.line i).activePattern.bind fun p => p.edges.find? fun e => e.offset == s.timebase.offset with
    | some e => s.actOn i e.action
    | none => s
  else s

/-- Steps 1 and 2 of R35 for one line. -/
def State.patternStep (boundary lengthTaken : Bool) (s : State) (i : LineId) : State :=
  (if boundary then s.boundaryStep lengthTaken i else s).patternEdge i

/-- Steps 1 and 2 for every line, in ascending line number (R118). -/
def State.patternSteps (boundary lengthTaken : Bool) (s : State) : State :=
  lineIds.foldl (State.patternStep boundary lengthTaken) s

/-! ## WRITE_SLOT and CLEAR_PATTERN -/

/-- An edge with its action read (R107 check 1). -/
def readPatternEdge (e : RawEdge) : Option PatternEdge :=
  (readLevelAction e.action).map fun a => { offset := e.offset.toNat, action := a }

/-- Every edge read, or none when one has no action. -/
def readPatternEdges : List RawEdge → Option (List PatternEdge)
  | [] => some []
  | e :: rest =>
      match readPatternEdge e, readPatternEdges rest with
      | some p, some ps => some (p :: ps)
      | _, _ => none

/-- Offsets strictly increasing (R105). -/
def increasingOffsets : List PatternEdge → Bool
  | a :: b :: rest => a.offset < b.offset && increasingOffsets (b :: rest)
  | _ => true

/-- The pattern of a WRITE_SLOT, where check 1 of R107 passes. -/
def readPattern (boundary : Byte) (edges : List RawEdge) : Option Pattern :=
  match readBoundaryAction boundary, readPatternEdges edges with
  | some b, some es =>
      if es.length ≤ 6 ∧ increasingOffsets es = true then some { boundary := b, edges := es } else none
  | _, _ => none

/-- R108: the length in force at the next boundary. -/
def Timebase.checkLength (t : Timebase) : Nat := t.staged.getD t.length

/-- Fill a slot and make it the pending takeover (R109). -/
def Line.write (l : Line) (slot : SlotSel) (p : Pattern) : Line :=
  match slot with
  | .slotA => { l with slotA := some p, takeover := some .slotA }
  | .slotB => { l with slotB := some p, takeover := some .slotB }
  | .noSlot => l

/-- WRITE_SLOT (R107 to R109). -/
def writeSlotRequest (line slot boundary : Byte) (edges : List RawEdge) (s : State) : Answer :=
  match readLine line, readSlot slot, readPattern boundary edges with
  | some i, some sl, some p =>
      let l := s.line i
      if s.guarded then refuse .held s
      else if !l.isDrive then refuse .lineMode s
      else if l.active = sl then refuse .slotActive s
      else
        match p.edges.findIdx? fun e => s.timebase.checkLength ≤ e.offset with
        | some k => refuseWith .badField (.offsetError k s.timebase.checkLength) s
        | none =>
            let l' := l.write sl p
            accept (.pattern l'.active l'.takeover p) (s.setLine i l')
  | _, _, _ => refuse .badField s

/-- CLEAR_PATTERN (R110). -/
def clearPatternRequest (line : Byte) (s : State) : Answer :=
  match readLine line with
  | some i =>
      let l := s.line i
      if s.guarded then refuse .held s
      else if !l.isDrive then refuse .lineMode s
      else accept (.slots l.active (some .noSlot)) (s.setLine i { l with takeover := some .noSlot })
  | none => refuse .badField s

end Sys2Proof.Machine
end

