-- ==== Sys2Proof/Machine/Timebase.lean ====
section
/-! DEFINITION. The timebase and hold (chapter 1): START, STOP, SET_TIMEBASE, HOLD, RESUME, the changes of the hold
reasons with the hold levels of the lines (R31, R34), and the counts of a tick (R2). -/

namespace Sys2Proof.Machine

/-! ## Entering and leaving RUNNING -/

/-- R49: every candidate is abandoned. -/
def State.abandonAll (s : State) : State :=
  { s with qualifiers := s.qualifiers.map fun q => { q with state := .waiting } }

/-- R49: every last sample becomes absent. -/
def State.forgetSamples (s : State) : State := { s with qualifiers := s.qualifiers.map fun q => { q with last := none } }

/-- RUNNING is left for another state: the partial tick period is discarded and candidates are abandoned (R1, R5). -/
def State.leaveRunning (s : State) (next : TimebaseState) : State :=
  { s.abandonAll with timebase := { s.timebase with state := next, count := 0 } }

/-- RUNNING is entered: the prescale count starts from zero (R1), and the qualifiers are informed (R5). -/
def State.enterRunning (s : State) : State :=
  { s.forgetSamples with timebase := { s.timebase with state := .running, count := 0 } }

/-! ## The hold reasons (R14 to R16) -/

/-- R31. -/
def Line.enterHold (l : Line) : Line :=
  if l.isDrive then { l with level := none, saved := l.level, frozen := l.level } else l

/-- R34. -/
def Line.leaveHold (l : Line) : Line :=
  if l.isDrive then { l with level := l.saved, saved := none, frozen := none } else l

/-- R14: the reasons go from empty to `r`. -/
def State.enterHold (s : State) (r : HoldReasons) : State :=
  let s := if s.timebase.state = .running then s.leaveRunning .held else s
  let s := { s with timebase := { s.timebase with reasons := r }, lines := s.lines.map Line.enterHold }
  s.raise (.holdEntered r)

/-- R15: the reasons become empty. -/
def State.leaveHold (s : State) : State :=
  let s := { s with timebase := { s.timebase with reasons := ⟨false, false⟩ }, lines := s.lines.map Line.leaveHold }
  let s := if s.timebase.state = .held then s.enterRunning else s
  (s.raise .holdLeft).awaitTest .holdCleared

/-- A change of the hold reasons (R14, R15, R16). -/
def State.changeReasons (s : State) (r : HoldReasons) : State :=
  match s.timebase.reasons.isEmpty, r.isEmpty with
  | true, false => s.enterHold r
  | false, true => s.leaveHold
  | true, true => s
  | false, false => { s with timebase := { s.timebase with reasons := r } }

/-- HOLD (R12). -/
def holdRequest (s : State) : Answer :=
  let r : HoldReasons := { s.timebase.reasons with link := true }
  accept (.reasons r) (s.changeReasons r)

/-- RESUME (R13). -/
def resumeRequest (s : State) : Answer :=
  let r : HoldReasons := { s.timebase.reasons with link := false }
  accept (.reasons r) (s.changeReasons r)

/-- The first sample that finds HOLD asserted (R11). -/
def State.pinAsserted (s : State) : State := s.changeReasons { s.timebase.reasons with pin := true }

/-- The first sample that finds HOLD released (R11). -/
def State.pinReleased (s : State) : State := s.changeReasons { s.timebase.reasons with pin := false }

/-! ## START, STOP, SET_TIMEBASE -/

/-- T, the offset and the cycle number become 0 (R6). -/
def Timebase.zeroed (t : Timebase) : Timebase := { t with time := 0, offset := 0, cycle := 0 }

/-- The state START enters: RUNNING, or HELD while a hold reason is present (R6). -/
def State.enterStarted (s : State) : State :=
  if s.timebase.reasons.isEmpty then s.enterRunning
  else { s with timebase := { s.timebase with state := .held } }

/-- START with origin ZERO tests TIME_REACHED against T = 0 (R186). -/
def State.zeroTime (s : State) : State := { s with timebase := s.timebase.zeroed }.awaitTest .startZero

/-- The reply of an accepted START. -/
def startReply (s : State) : Answer := accept (.start s.timebase.state s.timebase.time) s

/-- START (R6). -/
def startRequest (origin : Byte) (s : State) : Answer :=
  match readFlag origin with
  | none => refuse .badField s
  | some zero =>
      if s.timebase.state ≠ .stopped then refuse .wrongState s
      else if zero && !s.agenda.entries.isEmpty then refuse .wrongState s
      else startReply (if zero then s.zeroTime.enterStarted else s.enterStarted)

/-- R7: time stops. -/
def State.stopTime (s : State) : State :=
  match s.timebase.state with
  | .stopped => s
  | .running => s.leaveRunning .stopped
  | .held => { s with timebase := { s.timebase with state := .stopped, count := 0 } }

/-- STOP (R7). -/
def stopRequest (s : State) : Answer :=
  accept (.stop s.timebase.time s.timebase.offset s.timebase.cycle) s.stopTime

/-- R9: the length applies at once. -/
def Timebase.applyLength (t : Timebase) (length : Nat) : Timebase :=
  { t with length := length, staged := none, offset := if length ≤ t.offset then length - 1 else t.offset }

/-- R10: the length is staged, replaced or removed. -/
def Timebase.stageLength (t : Timebase) (length : Nat) : Timebase :=
  { t with staged := if length = t.length then none else some length }

/-- R9 and R117: the length applies at once, and lines whose active pattern it clips report it, in ascending line number
(DESIGN CHOICE, log entry 17). -/
def State.lengthAtOnce (s : State) (length : Nat) : State :=
  let s' := { s with timebase := s.timebase.applyLength length }
  if length = s.timebase.length then s' else lineIds.foldl State.clipNotice s'

/-- R8: the three settings. -/
def State.setTimebase (s : State) (exponent length : Nat) (holdGuard : Bool) : State :=
  let s := { s with timebase := { s.timebase with prescale := exponent, holdGuard := holdGuard } }
  if s.timebase.state = .stopped then s.lengthAtOnce length
  else { s with timebase := s.timebase.stageLength length }

/-- The reply of an accepted SET_TIMEBASE. -/
def lengthsReply (s : State) : Answer := accept (.lengths s.timebase.length s.timebase.staged) s

/-- SET_TIMEBASE (R8). -/
def setTimebaseRequest (exponent : Byte) (length : Quad) (holdGuard : Byte) (s : State) : Answer :=
  match readFlag holdGuard with
  | none => refuse .badField s
  | some g =>
      if 8 < exponent.toNat ∨ length.toNat < 2 ∨ 65536 < length.toNat then refuse .badField s
      else if s.timebase.state ≠ .stopped ∧ exponent.toNat ≠ s.timebase.prescale then refuse .wrongState s
      else lengthsReply (s.setTimebase exponent.toNat length.toNat g)

/-! ## The counts of a tick -/

/-- The next tick is a cycle boundary (R2). -/
def Timebase.atBoundary (t : Timebase) : Bool := t.length ≤ t.offset + 1

/-- R2's counts, and the prescale count starts again from zero (R1). -/
def Timebase.advance (t : Timebase) : Timebase :=
  if t.atBoundary then
    { t with time := t.time + 1, offset := 0, cycle := t.cycle + 1, length := t.staged.getD t.length
             staged := none, count := 0 }
  else { t with time := t.time + 1, offset := t.offset + 1, count := 0 }

end Sys2Proof.Machine
end

