-- ==== Sys2Proof/Machine/Device.lean ====
section
/-! DEFINITION. The device requests and the resets (chapter 10): IDENTIFY, STATUS, AWAIT, RESTART; the await timer, the
HOLD pin, RESTART taking effect, and the hardware reset. -/

namespace Sys2Proof.Machine

/-! ## IDENTIFY and STATUS -/

/-- IDENTIFY (R181). -/
def identifyRequest (s : State) : Answer := accept .identity s

/-- The states of the eight rules, rule 0 first. -/
def State.ruleStates (s : State) : List RuleState := ruleIds.map fun k => ruleStateOf (s.rule k)

/-- The count of the pending loss, 0 when it is absent (R182). -/
def CaptureQueue.lossCount (q : CaptureQueue) : Nat :=
  match q.loss with
  | some p => p.count
  | none => 0

/-- The snapshot of R182. -/
def State.snapshot (s : State) : Snapshot :=
  { state := s.timebase.state, reasons := s.timebase.reasons, holdGuard := s.timebase.holdGuard
    prescale := s.timebase.prescale, time := s.timebase.time, offset := s.timebase.offset, cycle := s.timebase.cycle
    length := s.timebase.length, staged := s.timebase.staged
    agendaHeld := s.agenda.entries.length
    queueHeld := s.queue.entries.length, unread := s.queue.unread, lossCount := s.queue.lossCount
    noticesHeld := s.notices.records.length, noticesLost := s.notices.pendingLost
    rules := s.ruleStates
    counters := s.link.counters }

/-- The six link counters become 0 (R183). -/
def State.clearCounters (s : State) : State := { s with link := { s.link with counters := .zero } }

/-- STATUS (R182, R183): the snapshot carries the counters before they are cleared. -/
def statusRequest (clear : Byte) (s : State) : Answer :=
  match readFlag clear with
  | none => refuse .badField s
  | some c => accept (.status s.snapshot) (if c then s.clearCounters else s)

/-! ## AWAIT (R184, R185) -/

/-- The line of AGENDA_EMPTY: 0xFF is ALL (R196). -/
def readAwaitLine (b : Byte) : Option (Option LineId) := if b = 0xFF then some none else (readLine b).map some

/-- The condition of an AWAIT at T = `now`; none where check 1 of R184 fails. Argument bytes a condition does not use
are not examined (R196). -/
def readCondition (condition : Byte) (argument : Stamp) (now : Stamp) : Option AwaitCondition :=
  match condition with
  | 0 => (readAwaitLine (argument.extractLsb' 0 8)).map .agendaEmpty
  | 1 =>
      let n := (argument.extractLsb' 0 16).toNat
      if 1 ≤ n ∧ n ≤ 256 then some (.unreadAtLeast n) else none
  | 2 => if classify argument now = .beyond then none else some (.timeReached argument)
  | 3 => some .holdClear
  | _ => none

/-- The request becomes the deferred request, and the await timer starts (R173, R185). -/
def State.defer (s : State) (seq : Byte) (check : Half) (condition : AwaitCondition) (timeoutMs : Nat) : State :=
  { s with link := { s.link with
      deferred := some { seq := seq, check := check, condition := condition, timeoutMs := timeoutMs, timer := some 0 } } }

/-- AWAIT (R184, R185): with a false condition there is no reply now. -/
def awaitRequest (seq : Byte) (check : Half) (condition : Byte) (argument : Stamp) (timeout : Half) (s : State) : Answer :=
  match readCondition condition argument s.timebase.time with
  | none => refuse .badField s
  | some c =>
      if timeout.toNat < 1 ∨ 60000 < timeout.toNat then refuse .badField s
      else if s.link.deferred.isSome then refuse .busy s
      else if c.holds s then (s, some (c.reply .ok s))
      else (s.defer seq check c timeout.toNat, none)

/-- The await timer expires (R187). -/
def State.awaitExpiry (s : State) : State :=
  match s.link.awaiting with
  | some d => s.answerDeferred d .timeout
  | none => s

/-- AWAIT_TIMEOUT (R187): it can occur while the await timer runs. -/
def execAwaitTimeout (s : State) : Result := eventIf (fun s => s.link.awaiting.isSome) State.awaitExpiry s

/-! ## RESTART (R190) -/

/-- RESTART (R190): the reply OK, and the RESTART is pending until that reply has been sent. -/
def restartRequest (s : State) : Answer := accept .codeOnly { s with link := { s.link with restartPending := true } }

/-! ## The HOLD pin (R11) -/

/-- HOLD_PIN_ASSERTED (R11): a sample finds HOLD asserted after one that found it released. -/
def execHoldPinAsserted (s : State) : Result := eventIf (fun s => !s.timebase.reasons.pin) State.pinAsserted s

/-- HOLD_PIN_RELEASED (R11): a sample finds HOLD released after one that found it asserted. -/
def execHoldPinReleased (s : State) : Result := eventIf (fun s => s.timebase.reasons.pin) State.pinReleased s

/-! ## Resets (R192 to R194) -/

/-- Every block takes its reset value (the table of R192), the link at the rate in force. -/
def State.resetBlocks (s : State) (cause : RestartCause) : State :=
  { s with
    timebase := .reset, lines := .replicate 16 .reset, qualifiers := .replicate 16 .reset, queue := .reset
    agenda := .reset, rules := .replicate 8 none, notices := .reset cause, link := .reset s.link.rate }

/-- The first sample after a reset adds PIN if it finds HOLD asserted (R21). -/
def State.firstSample (s : State) (holdAsserted : Bool) : State := if holdAsserted then s.pinAsserted else s

/-- RESTART takes effect (R192). The first sample finds HOLD as the last one did (DESIGN CHOICE, log entry 15). -/
def State.restartEffect (s : State) : State :=
  (s.resetBlocks .restartRequest).firstSample s.timebase.reasons.pin

/-- A hardware reset begins: the lines are high-impedance, ATTN is released, a frame in transmission is cut, and no
block acts until it ends (R193; DESIGN CHOICE, log entry 11). -/
def State.beginReset (s : State) (power : Power) : State :=
  { s.resetBlocks .powerOn with notices := .empty, power := { power with inReset := true } }

/-- The cause of the reset that ends: POWER_ON if the power-up flag is set, RESET_PIN if it is clear (R193). -/
def Power.cause (p : Power) : RestartCause := if p.powerUpFlag then .powerOn else .resetPin

/-- The hardware reset ends (R193, R194): the flag is read and cleared, the rate pins and HOLD are sampled. -/
def State.endReset (s : State) (rate : Rate) (holdAsserted : Bool) : State :=
  let s1 := s.resetBlocks s.power.cause
  { s1 with link := .reset rate, power := .reset }.firstSample holdAsserted

/-- POWER_UP (R193): VDD rises through the threshold, the part is held in reset and the flag is set. A rise implies
that VDD was below the threshold (DEDUCED, log entry 12), so it can occur in every state. -/
def execPowerUp (s : State) : Result := .next (s.beginReset { s.power with vddLow := false, powerUpFlag := true })

/-- RESET_ASSERTED (R193). -/
def execResetAsserted (s : State) : Result := .next (s.beginReset { s.power with resetAsserted := true })

/-- VDD_BELOW_THRESHOLD (R193): VDD dips below the threshold and the detector holds the part in reset. -/
def execVddBelowThreshold (s : State) : Result := .next (s.beginReset { s.power with vddLow := true })

/-- Whether a hardware reset lasts that may end: RESET_N is released with this very event, and VDD is not below the
detector's threshold (R193). -/
def Power.mayEnd (p : Power) : Bool := p.inReset && !p.vddLow

/-- RESET_END (R194): the first REFCLK period in which nothing holds the part in reset. The transmitter is IDLE after
it and begins at the next step, so that a request taken before has its reply sent first (R179; DESIGN CHOICE, log
entry 7). -/
def execResetEnd (rate1 rate0 holdAsserted : Bool) (s : State) : Result :=
  .next (if s.power.mayEnd then s.endReset (readRate rate1 rate0) holdAsserted else s)

end Sys2Proof.Machine
end

