-- ==== Sys2Proof/Machine/Captures.lean ====
section
/-! DEFINITION. The Capture Queue (chapter 4): appending, losing, READ_CAPTURES, RELEASE_CAPTURES, SET_QUEUE. -/

namespace Sys2Proof.Machine

/-! ## Appending (R55, R57, R67, R69, R70) -/

/-- Append an entry that takes its qseq from next qseq (R55). -/
def CaptureQueue.append (q : CaptureQueue) (entry : Half → QueueEntry) : CaptureQueue :=
  { q with entries := q.entries ++ [entry q.nextQseq], nextQseq := q.nextQseq + 1 }

/-- R69, after an append: the unread count went from 0 to 1 with the ready flag ARMED. -/
def State.noteReady (s : State) : State :=
  if s.queue.unread = 1 ∧ s.queue.readyFlag = true then
    { s with queue := { s.queue with readyFlag := false } }.raise (.captureReady 1 s.queue.head)
  else s

/-- R70, after an append: the unread count equals the watermark with its flag ARMED. -/
def State.noteWatermark (s : State) : State :=
  if s.queue.unread = s.queue.watermark ∧ 1 ≤ s.queue.watermark ∧ s.queue.watermarkFlag = true then
    { s with queue := { s.queue with watermarkFlag := false } }.raise (.queueWatermark s.queue.watermark)
  else s

/-- Append an entry, raise its notices in R73's order and test the deferred AWAIT (R186). -/
def State.appendEntry (s : State) (entry : Half → QueueEntry) : State :=
  ({ s with queue := s.queue.append entry }.noteReady.noteWatermark).awaitTest .append

/-- R59: a capture taken while 256 entries are held is lost. -/
def State.loseCapture (s : State) (c : Capture) : State :=
  match s.queue.loss with
  | some p => { s with queue := { s.queue with loss := some { p with count := satInc32 p.count } } }
  | none =>
      { s with queue := { s.queue with loss := some { count := 1, first := c.stamp } } }.raise (.queueLoss c.line c.stamp)

/-- The queue takes a capture with the fired set of its match (R57, R59). -/
def State.takeCapture (s : State) (c : Capture) (fired : List RuleId) : State :=
  if s.queue.entries.length < Config.queueCapacity then
    s.appendEntry fun q => .capture q c.line c.polarity c.stamp fired
  else s.loseCapture c

/-! ## READ_CAPTURES (R61, R62) -/

/-- The position READ_CAPTURES starts at: the read pointer's for NEXT, q's for QSEQ; none where q is not in the queue. -/
def CaptureQueue.readStart (q : CaptureQueue) (byQseq : Bool) (x : Half) : Option Nat :=
  if byQseq then (if q.position x < q.entries.length then some (q.position x) else none)
  else some (q.position q.readPointer)

/-- The read pointer after a run that ends before position `stop`: it never moves back (R62). -/
def CaptureQueue.advancePointer (q : CaptureQueue) (stop : Nat) : CaptureQueue :=
  { q with readPointer := if q.position q.readPointer < stop then q.head + BitVec.ofNat 16 stop else q.readPointer }

/-- R69 and R71: the flags an accepted read arms. -/
def CaptureQueue.rearm (q : CaptureQueue) : CaptureQueue :=
  { q with readyFlag := q.readyFlag || q.unread == 0
           watermarkFlag := q.watermarkFlag || decide (q.unread < q.watermark) }

/-- The entries an accepted read returns. -/
def CaptureQueue.run (q : CaptureQueue) (first max : Nat) : List QueueEntry := (q.entries.drop first).take max

/-- The queue after an accepted read of a run from `first`. -/
def CaptureQueue.read (q : CaptureQueue) (first max : Nat) : CaptureQueue :=
  let returned := q.run first max
  (if returned.isEmpty then q else q.advancePointer (first + returned.length)).rearm

/-- The reply of an accepted READ_CAPTURES. -/
def capturesReply (returned : List QueueEntry) (s : State) : Answer :=
  accept (.captures (1 ≤ s.queue.unread) returned) s

/-- READ_CAPTURES (R61, R62). -/
def readCapturesRequest (source : Byte) (x : Half) (max : Byte) (s : State) : Answer :=
  match readFlag source with
  | none => refuse .badField s
  | some byQseq =>
      if max.toNat < 1 ∨ 16 < max.toNat then refuse .badField s
      else
        match s.queue.readStart byQseq x with
        | none => refuse .notInQueue s
        | some first =>
            capturesReply (s.queue.run first max.toNat) { s with queue := s.queue.read first max.toNat }

/-! ## RELEASE_CAPTURES (R65 to R67) -/

/-- R66: the entries from the head through position p are removed. -/
def CaptureQueue.release (q : CaptureQueue) (p : Nat) : CaptureQueue := { q with entries := q.entries.drop (p + 1) }

/-- R67: a pending loss becomes a GAP entry. -/
def State.appendGap (s : State) : State :=
  match s.queue.loss with
  | some p =>
      { s with queue := { s.queue with loss := none } }.appendEntry fun q => .gap q p.count p.first
  | none => s

/-- The release and the GAP rule (R66, R67). -/
def State.releaseThrough (s : State) (p : Nat) : State := { s with queue := s.queue.release p }.appendGap

/-- The reply of an accepted RELEASE_CAPTURES. -/
def releasedReply (removed : Nat) (s : State) : Answer := accept (.released removed s.queue.entries.length) s

/-- RELEASE_CAPTURES (R65 to R67). -/
def releaseCapturesRequest (upto : Half) (s : State) : Answer :=
  let p := s.queue.position upto
  if s.guarded then refuse .held s
  else if s.queue.entries.length ≤ p then refuse .notInQueue s
  else if s.queue.position s.queue.readPointer ≤ p then refuse .notRead s
  else releasedReply (p + 1) (s.releaseThrough p)

/-! ## SET_QUEUE (R72) -/

/-- The watermark with its flag. -/
def CaptureQueue.setWatermark (q : CaptureQueue) (w : Nat) : CaptureQueue :=
  { q with watermark := w, watermarkFlag := w == 0 || decide (q.unread < w) }

/-- SET_QUEUE (R72). -/
def setQueueRequest (watermark : Half) (s : State) : Answer :=
  if 256 < watermark.toNat then refuse .badField s
  else accept (.watermark watermark.toNat s.queue.unread) { s with queue := s.queue.setWatermark watermark.toNat }

end Sys2Proof.Machine
end

