-- ==== Sys2Proof/Machine/Tick.lean ====
section
/-! DEFINITION. The tick (R1, R2, R35): the qualifiers' samples (chapter 3), the hand-off of captures (R47), and the
six commands that are a tick. A tick is one indivisible step (DEDUCED, log entry 1). -/

namespace Sys2Proof.Machine

/-! ## Qualification (R40 to R46) -/

/-- The direction of a change (R41). -/
def edgeOf (last sample : Level) : Option Edge :=
  match last, sample with
  | .low, .high => some .rise
  | .high, .low => some .fall
  | .low, .low => none
  | .high, .high => none

/-- R42's table. -/
def CapturePolarity.accepts : CapturePolarity → Edge → Bool
  | .both, _ => true
  | .rise, .rise => true
  | .fall, .fall => true
  | .rise, .fall => false
  | .fall, .rise => false

/-- R43: an edge taken in WAITING: the state after it, and the candidate that qualifies at once with filter 0. -/
def takeEdge (polarity : CapturePolarity) (filter : Nat) (now : Stamp) (e : Edge) : QualState × Option (Edge × Stamp) :=
  if polarity.accepts e then
    if filter = 0 then (.waiting, some (e, now)) else (.qualifying e now filter, none)
  else (.waiting, none)

/-- R44: a tick without an edge. -/
def holdLevel (st : QualState) : QualState × Option (Edge × Stamp) :=
  match st with
  | .waiting => (.waiting, none)
  | .qualifying p stamp r => if r ≤ 1 then (.waiting, some (p, stamp)) else (.qualifying p stamp (r - 1), none)

/-- R40, R43 to R45: one tick of a qualifier whose line is in CAPTURE. An edge in QUALIFYING abandons the candidate
and is taken as an edge in WAITING. -/
def Qualifier.sample (q : Qualifier) (polarity : CapturePolarity) (filter : Nat) (now : Stamp) (level : Level) :
    Qualifier × Option (Edge × Stamp) :=
  match q.last with
  | none => ({ q with last := some level }, none)
  | some last =>
      let out := match edgeOf last level with
        | some e => takeEdge polarity filter now e
        | none => holdLevel q.state
      ({ state := out.1, last := some level }, out.2)

/-- What the tick at `now` makes of a line's qualifier; a line that is not in CAPTURE takes no sample (R39). -/
def sampleLine (l : Line) (q : Qualifier) (now : Stamp) (level : Level) : Qualifier × Option (Edge × Stamp) :=
  match l.mode with
  | .capture polarity filter => q.sample polarity filter now level
  | .off => (q, none)
  | .drive .. => (q, none)

/-- A line's sample at T, with the levels of `inputs`. -/
def State.sampleAt (s : State) (i : LineId) : Qualifier × Option (Edge × Stamp) :=
  sampleLine (s.line i) (s.qualifiers.get i) s.timebase.time (pinLevel s.inputs i)

/-- R46: the capture of a line that qualifies at this tick. -/
def State.captureAt (s : State) (i : LineId) : Option Capture :=
  (s.sampleAt i).2.map fun c => { line := i, polarity := c.1, stamp := c.2 }

/-- The captures of a tick in ascending line number (R47). -/
def State.capturesNow (s : State) : List Capture := lineIds.filterMap s.captureAt

/-- Every qualifier takes its sample (R40). -/
def State.sampleAll (s : State) : State := { s with qualifiers := s.qualifiers.mapEach fun i _ => (s.sampleAt i).1 }

/-- R47, R57, R58: the Follow Table matches the capture, then the Capture Queue takes it with its fired set. -/
def State.handOver (s : State) (c : Capture) : State :=
  (s.matchCapture c).1.takeCapture c (s.matchCapture c).2

/-- The qualifications of a tick (R47). -/
def State.qualify (s : State) : State := s.capturesNow.foldl State.handOver s.sampleAll

/-! ## The tick -/

/-- The counts of the tick and the levels found at it, before any line acts (R2). -/
def State.countTick (s : State) (pins : Half) : State := { s with timebase := s.timebase.advance, inputs := pins }

/-- A tick in RUNNING: counts (R2), steps 1 and 2 of every line (R35), the expiries (R87), the qualifications with
step 4 (R47, R35). -/
def State.runTick (s : State) (pins : Half) : State :=
  let boundary := s.timebase.atBoundary
  let lengthTaken := boundary && s.timebase.staged.isSome
  (((s.countTick pins).awaitTest .tick).patternSteps boundary lengthTaken).expireDue.qualify

/-- Ticks occur only in RUNNING (R1). -/
def State.isRunning (s : State) : Bool := s.timebase.state == .running

/-- TICK (R1, R2). -/
def execTick (pins : Half) (s : State) : Result := eventIf State.isRunning (·.runTick pins) s

/-- CYCLE_BOUNDARY (R2): the tick at which the offset reaches L. -/
def execCycleBoundary (pins : Half) (s : State) : Result :=
  eventIf (fun s => s.isRunning && s.timebase.atBoundary) (·.runTick pins) s

/-- The entry of a tag, when the next tick reaches its due (R87). -/
def State.dueNext (s : State) (tag : Half) : Option AgendaEntry :=
  (s.agenda.find tag).filter fun e => s.isRunning && e.due == s.timebase.time + 1

/-- The next tick reaches the due of an entry of this tag whose action and phase satisfy `p`. -/
def State.expiresNext (p : Action → Phase → Bool) (tag : Half) (s : State) : Bool :=
  match s.dueNext tag with
  | some e => p e.action e.phase
  | none => false

/-- EXPIRE_SINGLE_ACTION (R88): the tick at which this tag's single action reaches its due. -/
def execExpireSingleAction (tag pins : Half) (s : State) : Result :=
  eventIf (State.expiresNext (fun a _ => !a.isPulse) tag) (·.runTick pins) s

/-- EXPIRE_PULSE_LEAD (R89): the tick at which this tag's pulse in LEAD reaches its due. -/
def execExpirePulseLead (tag pins : Half) (s : State) : Result :=
  eventIf (State.expiresNext (fun a p => a.isPulse && p == .lead) tag) (·.runTick pins) s

/-- EXPIRE_PULSE_TRAIL (R90): the tick at which this tag's pulse in TRAIL reaches its due. -/
def execExpirePulseTrail (tag pins : Half) (s : State) : Result :=
  eventIf (State.expiresNext (fun a p => a.isPulse && p == .trail) tag) (·.runTick pins) s

/-- CAPTURE_QUALIFIED (R46): the tick at which this line's capture qualifies. -/
def execCaptureQualified (line : LineId) (pins : Half) (s : State) : Result :=
  eventIf (fun s => s.isRunning && ((s.countTick pins).captureAt line).isSome) (·.runTick pins) s

end Sys2Proof.Machine
end

