-- ==== Sys2Proof/Machine/Clock.lean ====
section
/-! DEFINITION. A step on an empty queue: the transmitter begins a frame that is offered, or one REFCLK period passes
with what comes due in it (R1, R150, R185; DESIGN CHOICE, log entry 2). -/

namespace Sys2Proof.Machine

/-- What the clock brings. -/
inductive ClockEvent where
  | tick
  | awaitTimeout
  | repeatExpiry
  deriving DecidableEq, Repr

/-- The prescale count has counted 2^p periods (R1). -/
def State.tickDue (s : State) : Bool := s.isRunning && decide (2 ^ s.timebase.prescale ≤ s.timebase.count)

/-- The timeout has passed (R185). -/
def Deferred.expired (d : Deferred) : Bool :=
  match d.timer with
  | some n => d.timeoutMs * Config.periodsPerMs ≤ n
  | none => false

/-- The await timer expires now. -/
def State.timeoutDue (s : State) : Bool :=
  match s.link.deferred with
  | some d => d.expired
  | none => false

/-- The repeat interval has passed (R150). -/
def State.repeatDue (s : State) : Bool :=
  match s.notices.timer with
  | some n => s.notices.interval.toNat * Config.periodsPerRepeatUnit ≤ n
  | none => false

/-- The events that have come due. -/
def State.clockEvents (s : State) : List ClockEvent :=
  (if s.tickDue then [.tick] else []) ++ (if s.timeoutDue then [.awaitTimeout] else [])
    ++ (if s.repeatDue then [.repeatExpiry] else [])

/-- Take one event of the clock; at a tick the outside still presents the levels it last presented (DESIGN CHOICE,
DESIGN CHOICE, log entry 4). -/
def State.takeClockEvent (s : State) : ClockEvent → State
  | .tick => (s.runTick s.inputs).transmit
  | .awaitTimeout => s.awaitExpiry.transmit
  | .repeatExpiry => s.repeatExpiry.transmit

/-- The await timer counts one REFCLK period. -/
def Link.countPeriod (l : Link) : Link :=
  { l with deferred := l.deferred.map fun d => { d with timer := d.timer.map (· + 1) } }

/-- One REFCLK period in which nothing comes due: the running counts advance. -/
def State.period (s : State) : State :=
  { s with
    timebase := { s.timebase with count := if s.isRunning then s.timebase.count + 1 else s.timebase.count }
    link := s.link.countPeriod
    notices := { s.notices with timer := s.notices.timer.map (· + 1) } }

/-- The event taken when several are due: a free choice (DESIGN CHOICE, log entry 5). -/
def State.chooseEvent (s : State) (events : List ClockEvent) : State :=
  match events[Config.firstDue s.freeCount % events.length]? with
  | some e => { s with freeCount := s.freeCount + 1 }.takeClockEvent e
  | none => s

/-- Take what is due, or let one period pass. -/
def State.clock (s : State) : State :=
  match s.clockEvents with
  | [] => s.period
  | [e] => s.takeClockEvent e
  | events => s.chooseEvent events

/-- An IDLE transmitter to which a frame is offered. -/
def State.mayTransmit (s : State) : Bool := s.link.tx == .idle && s.offered.isSome

/-- The step on an empty queue. While the hardware reset lasts nothing happens (DESIGN CHOICE, log entry 11). -/
def State.idle (s : State) : State :=
  if s.power.inReset then s else if s.mayTransmit then s.transmit else s.clock

end Sys2Proof.Machine
end

