-- ==== Sys2Proof/Machine/Lines.lean ====
section
/-! DEFINITION. SET_LINE, READ_LINES and CANCEL_LINE: what acts on a line as a whole (chapter 2, R96). -/

namespace Sys2Proof.Machine

/-- Remove every agenda entry that names a line: no trail, no record, no notice (R96, R98); AGENDA_EMPTY is tested
when an entry was removed (R186). -/
def State.removeLineEntries (s : State) (i : LineId) : State :=
  let s' := { s with agenda := s.agenda.removeLine i }
  if (s.agenda.onLine i).isEmpty then s' else s'.awaitTest (.removal i)

/-- The line after the steps of R28, by R29's table. -/
def freshLine (mode : LineMode) (inHold : Bool) : Line :=
  let l := { Line.reset with mode := mode }
  match mode, inHold with
  | .off, _ => l
  | .capture .., _ => l
  | .drive idle _, false => { l with level := some idle }
  | .drive idle _, true => { l with saved := some idle, frozen := some idle }

/-- The five steps of R28. -/
def State.reconfigure (s : State) (i : LineId) (mode : LineMode) : State :=
  let s := s.removeLineEntries i
  let s := { s with qualifiers := s.qualifiers.set i .reset }
  s.setLine i (freshLine mode s.inHold)

/-- SET_LINE (R27 to R29). -/
def setLineRequest (line mode polarity : Byte) (filter : Half) (idle holdAction : Byte) (s : State) : Answer :=
  match readLine line, readMode mode polarity filter idle holdAction with
  | some i, some m =>
      if s.guarded then refuse .held s
      else accept (.voided (s.agenda.onLine i).length) (s.reconfigure i m)
  | _, _ => refuse .badField s

/-- The level found on a pin: what the line drives, or the level from outside (R23, R24, R37). -/
def State.pinFound (s : State) (i : LineId) : Level := (s.line i).shown.getD (pinLevel s.inputs i)

/-- One line's report (R37). -/
def State.lineRecord (s : State) (i : LineId) : LineRecord :=
  let l := s.line i
  { mode := l.mode, pin := s.pinFound i, saved := l.saved, active := l.active, takeover := l.takeover }

/-- READ_LINES (R37). -/
def readLinesRequest (s : State) : Answer := accept (.lines (lineIds.map s.lineRecord)) s

/-- CANCEL_LINE (R96). -/
def cancelLineRequest (line : Byte) (s : State) : Answer :=
  match readLine line with
  | some i =>
      if s.guarded then refuse .held s
      else accept (.removed (s.agenda.onLine i).length) (s.removeLineEntries i)
  | none => refuse .badField s

end Sys2Proof.Machine
end

