-- ==== Sys2Proof/WellFormed.lean ====
section
/-! DEFINITION. Which command terms a frame of the link can carry (R162, R170, R196). Every other term is well formed:
its operands' types hold exactly the values a frame or a pin can show. -/

namespace Sys2Proof

/-- Lists that fit a payload of at most 240 bytes, and for UNKNOWN_KIND a kind that names no request. -/
def Instr.wellFormed : Instr → Bool
  | .writeSlot _ _ _ _ edges => 3 + 3 * edges.length ≤ Config.payloadLimit
  | .schedule _ orders => 15 * orders.length ≤ Config.payloadLimit
  | .unknownKind _ kind payload => !knownKind kind && payload.length ≤ Config.payloadLimit
  | _ => true

/-- A request that fits a frame. -/
def Request.wellFormed (r : Request) : Bool := r.payload.length ≤ Config.payloadLimit

end Sys2Proof
end

