-- ==== Sys2Proof/Machine/Link.lean ====
section
/-! DEFINITION. The Control Link (chapter 9): taking a request, the frame receiver, and the completions of replies. -/

namespace Sys2Proof.Machine

/-! ## Handing a request to its owner (R169 steps 3 and 4) -/

/-- The owning block's answer to a request taken with this SEQ and check value. -/
def runRequest (seq : Byte) (check : Half) (r : Request) (s : State) : Answer :=
  match r with
  | .identify => identifyRequest s
  | .status clear => statusRequest clear s
  | .await condition argument timeout => awaitRequest seq check condition argument timeout s
  | .restart => restartRequest s
  | .start origin => startRequest origin s
  | .stop => stopRequest s
  | .setTimebase exponent length holdGuard => setTimebaseRequest exponent length holdGuard s
  | .hold => holdRequest s
  | .resume => resumeRequest s
  | .setLine line mode polarity filter idle holdAction => setLineRequest line mode polarity filter idle holdAction s
  | .readLines => readLinesRequest s
  | .writeSlot line slot boundary edges => writeSlotRequest line slot boundary edges s
  | .clearPattern line => clearPatternRequest line s
  | .readCaptures source qseq max => readCapturesRequest source qseq max s
  | .releaseCaptures upto => releaseCapturesRequest upto s
  | .setQueue watermark => setQueueRequest watermark s
  | .schedule orders => scheduleRequest orders s
  | .cancel tag complete => cancelRequest tag complete s
  | .cancelLine line => cancelLineRequest line s
  | .listAgenda first count => listAgendaRequest first count s
  | .setFollow id settings => setFollowRequest id settings s
  | .armFollow id => armFollowRequest id s
  | .disarmFollow id => disarmFollowRequest id s
  | .clearFollow id => clearFollowRequest id s
  | .readFollow id => readFollowRequest id s
  | .ackNotices upto => ackNoticesRequest upto s
  | .setNotices mask interval => setNoticesRequest mask interval s

/-- The link's own checks (R170), then the owning block. -/
def answerFrame (f : RequestFrame) (s : State) : Answer :=
  match parseRequest f.kind f.payload with
  | .unknownKind => refuse .unknownKind s
  | .badLength => refuse .badLength s
  | .request r => runRequest f.seq f.check r s

/-! ## Taking a frame (R169, R171) -/

/-- The state of the last-taken record when it carries this SEQ and check value (R171). -/
def Link.repeatOf (l : Link) (seq : Byte) (check : Half) : Option RecordState :=
  match l.lastTaken with
  | some r => if r.seq = seq ∧ r.check = check then some r.state else none
  | none => none

/-- R171's last two rows: a taken frame that equals the record is answered from the cache, or discarded. -/
def Link.answerRepeat (l : Link) (seq : Byte) (kind : BitVec 6) (record : RecordState) : Link :=
  let l := { l with counters := { l.counters with duplicate := satInc16 l.counters.duplicate } }
  match record with
  | .completed cached => { l with replySlot := some { seq := seq, kind := kind, reply := cached } }
  | .deferred => l

/-- Steps 5 and 6 of R169: the reply is placed and the last-taken record replaced; without a reply the record is
DEFERRED. -/
def Link.settleTaken (l : Link) (f : RequestFrame) : Option Reply → Link
  | some r =>
      { l with
        replySlot := some { seq := f.seq, kind := f.kind, reply := r }
        lastTaken := some { seq := f.seq, check := f.check, state := .completed r } }
  | none => { l with lastTaken := some { seq := f.seq, check := f.check, state := .deferred } }

/-- The taking of a frame that has left the waiting buffer (R169 from step 2), answered by `answer`. -/
def State.take (f : RequestFrame) (answer : State → Answer) (s : State) : State :=
  match s.link.repeatOf f.seq f.check with
  | some record => { s with link := s.link.answerRepeat f.seq f.kind record }
  | none => { (answer s).1 with link := (answer s).1.link.settleTaken f (answer s).2 }

/-- Count an overrun (R168). -/
def State.countOverrun (s : State) : State :=
  { s with link := { s.link with counters := { s.link.counters with overrun := satInc16 s.link.counters.overrun } } }

/-- A good request frame arrives (R168): it is lost as an overrun, stored, or stored and taken at once. -/
def State.arrive (f : RequestFrame) (answer : State → Answer) (s : State) : State :=
  if s.link.waiting.isSome then s.countOverrun
  else if s.link.replySlot.isSome then { s with link := { s.link with waiting := some f } }
  else s.take f answer

/-- The frame in the waiting buffer is taken when the reply slot is empty (R169). -/
def State.takeWaiting (s : State) : State :=
  match s.link.waiting with
  | some f =>
      if s.link.replySlot.isSome then s else { s with link := { s.link with waiting := none } }.take f (answerFrame f)
  | none => s

/-- The good request frame that carries a request (R162, R164). -/
def requestFrame (seq : Byte) (kind : BitVec 6) (payload : List Byte) : RequestFrame :=
  { seq := seq, kind := kind, payload := payload, check := frameCheck seq (requestKindByte kind) payload }

/-- The good frame of a request arrives whole (DESIGN CHOICE, log entry 13). A payload above 240 bytes fits no frame
(DESIGN CHOICE, log entry 9). -/
def submit (seq : Byte) (r : Request) (answer : Half → State → Answer) (s : State) : Result :=
  if r.wellFormed then
    let f := requestFrame seq r.kind r.payload
    event (State.arrive f (answer f.check)) s
  else .refused .malformed

/-- UNKNOWN_KIND (R170). -/
def execUnknownKind (seq : Byte) (kind : BitVec 6) (payload : List Byte) (s : State) : Result :=
  if knownKind kind || decide (Config.payloadLimit < payload.length) then .refused .malformed
  else event (State.arrive (requestFrame seq kind payload) (refuse .unknownKind)) s

/-- A repeated frame can be taken: the record holds one, and nothing waits before it. -/
def Link.takesRepeat (l : Link) : Bool := l.lastTaken.isSome && l.replySlot.isNone && l.waiting.isNone

/-- A frame of these kind bits with the SEQ and check value of the record is taken (R171). -/
def State.takeRepeat (kind : BitVec 6) (s : State) : State :=
  match s.link.lastTaken with
  | some r => { s with link := s.link.answerRepeat r.seq kind r.state }
  | none => s

/-- DUPLICATE_FRAME (R171). -/
def execDuplicateFrame (kind : BitVec 6) (s : State) : Result :=
  eventIf (fun s => s.link.takesRepeat) (State.takeRepeat kind) s

/-- OVERRUN (R168): a good request frame finds the waiting buffer occupied. -/
def execOverrun (s : State) : Result := eventIf (fun s => s.link.waiting.isSome) State.countOverrun s

/-! ## The frame receiver (R165 to R167) -/

/-- The frame on RXD is discarded for a cause, which one counter counts (R166). -/
def State.discardFrame (cause : DiscardCause) (s : State) : State :=
  { s with link := { s.link with rx := .hunt, counters := s.link.counters.raise cause } }

/-- Whether the receiver is where a cause is detected (R166's table). -/
def Receiver.detects (r : Receiver) (cause : DiscardCause) : Bool :=
  match cause, r with
  | .badStop, .hunt => false
  | .badStop, _ => true
  | .lengthAbove240, .len => true
  | .crcDiffers, .check _ _ _ (some _) => true
  | .notARequest, .check seq kind payload (some low) =>
      kindClass kind != 0 && low == (frameCheck seq kind payload).extractLsb' 0 8
  | _, _ => false

/-- FRAME_DISCARD (R166): the character at which the cause is detected (DEDUCED, log entry 14). -/
def execFrameDiscard (cause : DiscardCause) (s : State) : Result :=
  eventIf (fun s => s.link.rx.detects cause) (State.discardFrame cause) s

/-- BYTE_GAP_EXPIRY (R167): the timer runs in every receiver state but HUNT. -/
def execByteGapExpiry (s : State) : Result :=
  eventIf (fun s => s.link.rx != .hunt) (State.discardFrame .badStop) s

/-- Put the receiver in a state. -/
def State.setReceiver (r : Receiver) (s : State) : State := { s with link := { s.link with rx := r } }

/-- The second check byte: the frame is evaluated (R166), and a good request frame goes to the waiting buffer. -/
def State.evaluate (seq kind : Byte) (payload : List Byte) (check : Half) (s : State) : State :=
  if frameCheck seq kind payload ≠ check then s.discardFrame .crcDiffers
  else if kindClass kind ≠ 0 then s.discardFrame .notARequest
  else
    let f : RequestFrame := { seq := seq, kind := kindBits kind, payload := payload, check := check }
    (s.setReceiver .hunt).arrive f (answerFrame f)

/-- A good character in each receiver state (R165). -/
def State.receiveGood (v : Byte) (s : State) : State :=
  match s.link.rx with
  | .hunt => if v = 0xC3 then s.setReceiver .len else s
  | .len => if v.toNat ≤ Config.payloadLimit then s.setReceiver (.header v none) else s.discardFrame .lengthAbove240
  | .header n none => s.setReceiver (.header n (some v))
  | .header n (some seq) => s.setReceiver (if n = 0 then .check seq v [] none else .body n seq v [])
  | .body n seq kind payload =>
      s.setReceiver
        (if n.toNat ≤ payload.length + 1 then .check seq kind (payload ++ [v]) none else .body n seq kind (payload ++ [v]))
  | .check seq kind payload none => s.setReceiver (.check seq kind payload (some v))
  | .check seq kind payload (some low) => s.evaluate seq kind payload (word16 low v)

/-- A complete character (R165, R166). -/
def State.receive (v : Byte) (good : Bool) (s : State) : State :=
  if good then s.receiveGood v else if s.link.rx = .hunt then s else s.discardFrame .badStop

/-- CHARACTER_RECEIVED (R165): the value and the stop bit of a complete character, as `readCharacter` reads them off RXD. -/
def execCharacterReceived (value : Byte) (good : Bool) (pins : Half) (s : State) : Result :=
  event (fun s => { s with inputs := pins }.receive value good) s

/-! ## Completions of replies (R172 to R175) -/

/-- The reply frame in transmission. -/
def Transmitter.replySent : Transmitter → Option ReplyFrame
  | .sending (.reply f) => some f
  | .sending (.deferredReply _) => none
  | .sending (.firstSending _) => none
  | .sending (.repeatSending _) => none
  | .idle => none

/-- The deferred reply frame in transmission. -/
def Transmitter.deferredSent : Transmitter → Option ReplyFrame
  | .sending (.deferredReply f) => some f
  | .sending (.reply _) => none
  | .sending (.firstSending _) => none
  | .sending (.repeatSending _) => none
  | .idle => none

/-- A reply frame's transmission completes: the slot empties, the transmitter chooses among what is offered then, and
the waiting frame is taken after that choice (R175). -/
def State.replySent (s : State) : State :=
  { s with link := { s.link with replySlot := none, tx := .idle } }.transmit.takeWaiting

/-- REPLY_COMPLETE (R172). With a RESTART pending, the RESTART takes effect (R192); the transmitter is IDLE after it and
begins at the next step, as after a hardware reset (DESIGN CHOICE, log entry 7). -/
def execReplyComplete (pins : Half) (s : State) : Result :=
  if !s.power.inReset && s.link.restartPending && s.link.tx.replySent.isSome then .next { s with inputs := pins }.restartEffect
  else eventIf (fun s => s.link.tx.replySent.isSome) (fun s => { s with inputs := pins }.replySent) s

/-- R171: the DEFERRED record of this AWAIT becomes COMPLETED with the deferred reply. -/
def LastTaken.finish (r : LastTaken) (d : Deferred) (reply : Reply) : LastTaken :=
  if r.seq = d.seq ∧ r.check = d.check ∧ r.state = .deferred then { r with state := .completed reply } else r

/-- A deferred reply's transmission completes (R171, R173). -/
def Link.finishDeferred (l : Link) (f : ReplyFrame) : Link :=
  { l with
    tx := .idle, deferredSlot := none, deferred := none
    lastTaken := match l.deferred with
      | some d => l.lastTaken.map (·.finish d f.reply)
      | none => l.lastTaken }

/-- The deferred reply in transmission completes. -/
def State.deferredSent (s : State) : State :=
  match s.link.tx.deferredSent with
  | some f => { s with link := s.link.finishDeferred f }
  | none => s

/-- DEFERRED_REPLY_COMPLETE (R173). -/
def execDeferredReplyComplete (s : State) : Result :=
  eventIf (fun s => s.link.tx.deferredSent.isSome) State.deferredSent s

end Sys2Proof.Machine
end

