-- ==== Sys2Proof/Machine/Requests.lean ====
section
/-! DEFINITION. The request commands: the good frame of each request arrives, and is taken at once when nothing waits
before it (R168, R169; DESIGN CHOICE, log entry 13). -/

namespace Sys2Proof.Machine

/-- What the outside presents on TL0 to TL15 (DESIGN CHOICE, log entry 4). -/
def State.present (s : State) (pins : Half) : State := { s with inputs := pins }

/-- IDENTIFY (R181). -/
def execIdentify (seq : Byte) (s : State) : Result :=
  submit seq .identify (fun _ => identifyRequest) s

/-- STATUS (R182, R183). -/
def execStatus (seq : Byte) (clear : Byte) (s : State) : Result :=
  submit seq (.status clear) (fun _ => statusRequest clear) s

/-- AWAIT (R184, R185). -/
def execAwait (seq : Byte) (condition : Byte) (argument : Stamp) (timeout : Half) (s : State) : Result :=
  submit seq (.await condition argument timeout) (fun check => awaitRequest seq check condition argument timeout) s

/-- RESTART (R190). -/
def execRestart (seq : Byte) (s : State) : Result :=
  submit seq .restart (fun _ => restartRequest) s

/-- START (R6). -/
def execStart (seq : Byte) (origin : Byte) (s : State) : Result :=
  submit seq (.start origin) (fun _ => startRequest origin) s

/-- STOP (R7). -/
def execStop (seq : Byte) (s : State) : Result :=
  submit seq .stop (fun _ => stopRequest) s

/-- SET_TIMEBASE (R8 to R10). -/
def execSetTimebase (seq : Byte) (exponent : Byte) (length : Quad) (holdGuard : Byte) (s : State) : Result :=
  submit seq (.setTimebase exponent length holdGuard) (fun _ => setTimebaseRequest exponent length holdGuard) s

/-- HOLD (R12). -/
def execHold (seq : Byte) (s : State) : Result :=
  submit seq .hold (fun _ => holdRequest) s

/-- RESUME (R13). -/
def execResume (seq : Byte) (s : State) : Result :=
  submit seq .resume (fun _ => resumeRequest) s

/-- SET_LINE (R27 to R29). -/
def execSetLine (seq : Byte) (line mode polarity : Byte) (filter : Half) (idle holdAction : Byte) (s : State) : Result :=
  submit seq (.setLine line mode polarity filter idle holdAction)
    (fun _ => setLineRequest line mode polarity filter idle holdAction) s

/-- READ_LINES (R37), with the levels found on the pins at its taking. -/
def execReadLines (seq : Byte) (pins : Half) (s : State) : Result :=
  submit seq .readLines (fun _ s => readLinesRequest (s.present pins)) s

/-- WRITE_SLOT (R107 to R109). -/
def execWriteSlot (seq : Byte) (line slot boundary : Byte) (edges : List RawEdge) (s : State) : Result :=
  submit seq (.writeSlot line slot boundary edges) (fun _ => writeSlotRequest line slot boundary edges) s

/-- CLEAR_PATTERN (R110). -/
def execClearPattern (seq : Byte) (line : Byte) (s : State) : Result :=
  submit seq (.clearPattern line) (fun _ => clearPatternRequest line) s

/-- READ_CAPTURES (R61, R62). -/
def execReadCaptures (seq : Byte) (source : Byte) (qseq : Half) (max : Byte) (s : State) : Result :=
  submit seq (.readCaptures source qseq max) (fun _ => readCapturesRequest source qseq max) s

/-- RELEASE_CAPTURES (R65 to R67). -/
def execReleaseCaptures (seq : Byte) (upto : Half) (s : State) : Result :=
  submit seq (.releaseCaptures upto) (fun _ => releaseCapturesRequest upto) s

/-- SET_QUEUE (R72). -/
def execSetQueue (seq : Byte) (watermark : Half) (s : State) : Result :=
  submit seq (.setQueue watermark) (fun _ => setQueueRequest watermark) s

/-- SCHEDULE (R82 to R86). -/
def execSchedule (seq : Byte) (orders : List RawOrder) (s : State) : Result :=
  submit seq (.schedule orders) (fun _ => scheduleRequest orders) s

/-- CANCEL (R93, R94). -/
def execCancel (seq : Byte) (tag : Half) (complete : Byte) (s : State) : Result :=
  submit seq (.cancel tag complete) (fun _ => cancelRequest tag complete) s

/-- CANCEL_LINE (R96). -/
def execCancelLine (seq : Byte) (line : Byte) (s : State) : Result :=
  submit seq (.cancelLine line) (fun _ => cancelLineRequest line) s

/-- LIST_AGENDA (R97). -/
def execListAgenda (seq : Byte) (first count : Byte) (s : State) : Result :=
  submit seq (.listAgenda first count) (fun _ => listAgendaRequest first count) s

/-- SET_FOLLOW (R124, R125). -/
def execSetFollow (seq : Byte) (id : Byte) (settings : RawFollow) (s : State) : Result :=
  submit seq (.setFollow id settings) (fun _ => setFollowRequest id settings) s

/-- ARM_FOLLOW (R126). -/
def execArmFollow (seq : Byte) (id : Byte) (s : State) : Result :=
  submit seq (.armFollow id) (fun _ => armFollowRequest id) s

/-- DISARM_FOLLOW (R127). -/
def execDisarmFollow (seq : Byte) (id : Byte) (s : State) : Result :=
  submit seq (.disarmFollow id) (fun _ => disarmFollowRequest id) s

/-- CLEAR_FOLLOW (R128). -/
def execClearFollow (seq : Byte) (id : Byte) (s : State) : Result :=
  submit seq (.clearFollow id) (fun _ => clearFollowRequest id) s

/-- READ_FOLLOW (R139). -/
def execReadFollow (seq : Byte) (id : Byte) (s : State) : Result :=
  submit seq (.readFollow id) (fun _ => readFollowRequest id) s

/-- ACK_NOTICES (R153, R154). -/
def execAckNotices (seq : Byte) (upto : Half) (s : State) : Result :=
  submit seq (.ackNotices upto) (fun _ => ackNoticesRequest upto) s

/-- SET_NOTICES (R156). -/
def execSetNotices (seq : Byte) (mask interval : Byte) (s : State) : Result :=
  submit seq (.setNotices mask interval) (fun _ => setNoticesRequest mask interval) s

end Sys2Proof.Machine
end

