-- ==== Sys2Proof/Machine/Dispatch.lean ====
section
/-! DEFINITION. One arm per command. -/

namespace Sys2Proof.Machine

/-- The effect of a command on everything but the queue. -/
def exec (i : Instr) (s : State) : Host.Outcome State Fault Refusal :=
  match i with
  | .identify seq => Sys2Proof.Machine.execIdentify seq s
  | .status seq clear => Sys2Proof.Machine.execStatus seq clear s
  | .await seq condition argument timeout => Sys2Proof.Machine.execAwait seq condition argument timeout s
  | .restart seq => Sys2Proof.Machine.execRestart seq s
  | .start seq origin => Sys2Proof.Machine.execStart seq origin s
  | .stop seq => Sys2Proof.Machine.execStop seq s
  | .setTimebase seq exponent length holdGuard => Sys2Proof.Machine.execSetTimebase seq exponent length holdGuard s
  | .hold seq => Sys2Proof.Machine.execHold seq s
  | .resume seq => Sys2Proof.Machine.execResume seq s
  | .setLine seq line mode polarity filter idle holdAction => Sys2Proof.Machine.execSetLine seq line mode polarity filter idle holdAction s
  | .readLines seq pins => Sys2Proof.Machine.execReadLines seq pins s
  | .writeSlot seq line slot boundary edges => Sys2Proof.Machine.execWriteSlot seq line slot boundary edges s
  | .clearPattern seq line => Sys2Proof.Machine.execClearPattern seq line s
  | .readCaptures seq source qseq max => Sys2Proof.Machine.execReadCaptures seq source qseq max s
  | .releaseCaptures seq upto => Sys2Proof.Machine.execReleaseCaptures seq upto s
  | .setQueue seq watermark => Sys2Proof.Machine.execSetQueue seq watermark s
  | .schedule seq orders => Sys2Proof.Machine.execSchedule seq orders s
  | .cancel seq tag complete => Sys2Proof.Machine.execCancel seq tag complete s
  | .cancelLine seq line => Sys2Proof.Machine.execCancelLine seq line s
  | .listAgenda seq first count => Sys2Proof.Machine.execListAgenda seq first count s
  | .setFollow seq id settings => Sys2Proof.Machine.execSetFollow seq id settings s
  | .armFollow seq id => Sys2Proof.Machine.execArmFollow seq id s
  | .disarmFollow seq id => Sys2Proof.Machine.execDisarmFollow seq id s
  | .clearFollow seq id => Sys2Proof.Machine.execClearFollow seq id s
  | .readFollow seq id => Sys2Proof.Machine.execReadFollow seq id s
  | .ackNotices seq upto => Sys2Proof.Machine.execAckNotices seq upto s
  | .setNotices seq mask interval => Sys2Proof.Machine.execSetNotices seq mask interval s
  | .unknownKind seq kind payload => Sys2Proof.Machine.execUnknownKind seq kind payload s
  | .duplicateFrame kind => Sys2Proof.Machine.execDuplicateFrame kind s
  | .frameDiscard cause => Sys2Proof.Machine.execFrameDiscard cause s
  | .overrun => Sys2Proof.Machine.execOverrun s
  | .byteGapExpiry => Sys2Proof.Machine.execByteGapExpiry s
  | .replyComplete pins => Sys2Proof.Machine.execReplyComplete pins s
  | .deferredReplyComplete => Sys2Proof.Machine.execDeferredReplyComplete s
  | .noticeFrameComplete => Sys2Proof.Machine.execNoticeFrameComplete s
  | .repeatFrameComplete => Sys2Proof.Machine.execRepeatFrameComplete s
  | .repeatTimerExpiry => Sys2Proof.Machine.execRepeatTimerExpiry s
  | .awaitTimeout => Sys2Proof.Machine.execAwaitTimeout s
  | .holdPinAsserted => Sys2Proof.Machine.execHoldPinAsserted s
  | .holdPinReleased => Sys2Proof.Machine.execHoldPinReleased s
  | .tick pins => Sys2Proof.Machine.execTick pins s
  | .cycleBoundary pins => Sys2Proof.Machine.execCycleBoundary pins s
  | .expireSingleAction tag pins => Sys2Proof.Machine.execExpireSingleAction tag pins s
  | .expirePulseLead tag pins => Sys2Proof.Machine.execExpirePulseLead tag pins s
  | .expirePulseTrail tag pins => Sys2Proof.Machine.execExpirePulseTrail tag pins s
  | .captureQualified line pins => Sys2Proof.Machine.execCaptureQualified line pins s
  | .powerUp => Sys2Proof.Machine.execPowerUp s
  | .resetAsserted => Sys2Proof.Machine.execResetAsserted s
  | .resetEnd rate1 rate0 holdAsserted => Sys2Proof.Machine.execResetEnd rate1 rate0 holdAsserted s
  | .characterReceived value good pins => Sys2Proof.Machine.execCharacterReceived value good pins s
  | .vddBelowThreshold => Sys2Proof.Machine.execVddBelowThreshold s

end Sys2Proof.Machine
end

