-- ==== Sys2Proof/Machine/Step.lean ====
section
/-! DEFINITION. One step: the command at the front of the queue, or the clock when nothing waits. -/

namespace Sys2Proof.Machine

/-- The state with a queue of commands. -/
def State.withPending (s : State) (queue : List Instr) : State := { s with pending := queue }

/-- One step of the block. -/
def step (s : State) : Host.Outcome State Fault Refusal :=
  match s.pending with
  | c :: rest => exec c (s.withPending rest)
  | [] => .next s.idle

/-- The state with a word's command at the front of its queue; the table gives no row bits, so every word leaves the
state as it is. -/
def State.withFetchWord (s : State) (nbits w : Nat) : State :=
  match decodeTableWord nbits w with
  | some c => s.withPending (c :: s.pending)
  | none => s

end Sys2Proof.Machine
end

