-- ==== Sys2Proof/Machine/Format.lean ====
section
/-! DEFINITION. The layouts of replies, records and notice frames (R197 to R202), and the levels on TXD (R160). -/

namespace Sys2Proof.Machine

def natBytes16 (n : Nat) : List Byte := bytes16 (BitVec.ofNat 16 n)
def natBytes32 (n : Nat) : List Byte := bytes32 (BitVec.ofNat 32 n)
def natByte (n : Nat) : Byte := BitVec.ofNat 8 n

/-- A staged length, 0 when none is present (R195). -/
def stagedBytes (staged : Option Nat) : List Byte := natBytes32 (staged.getD 0)

/-- The fired set's byte: rule k contributes 2^k (R198). -/
def firedByte (fired : List RuleId) : Byte := fired.foldl (fun b k => b ||| (1 <<< k.val)) 0

/-- R198. -/
def QueueEntry.bytes : QueueEntry → List Byte
  | .capture qseq line polarity stamp fired =>
      [0] ++ bytes16 qseq ++ [lineCode line, polarity.code, firedByte fired] ++ bytes48 stamp
  | .gap qseq lost first => [1] ++ bytes16 qseq ++ natBytes32 lost ++ bytes48 first

/-- R199. -/
def AgendaEntry.bytes (e : AgendaEntry) : List Byte :=
  bytes16 e.tag ++ [lineCode e.line] ++ bytes48 e.due ++ [e.action.code] ++ bytes24 e.action.widthField
    ++ [e.phase.code, e.origin.code, flagCode e.report]

/-- R200, bytes 0 to 3 of a line record; byte 3 of a drive line, which R200 does not state, is a free value (DESIGN CHOICE,
DESIGN CHOICE, log entry 18). -/
def LineMode.bytes : LineMode → List Byte
  | .off => [0, 0, 0, 0]
  | .capture polarity filter => [1, polarity.code] ++ natBytes16 filter
  | .drive idle holdAction => [2, idle.code, holdAction.code, Config.driveRecordByte3 idle.code holdAction.code]

/-- R200. -/
def LineRecord.bytes (r : LineRecord) : List Byte :=
  r.mode.bytes ++ [r.pin.code, levelCode? r.saved, r.active.code, takeoverCode? r.takeover]

/-- Bytes 2 to 16 of a rule record; 0 for an EMPTY rule (R200). -/
def settingsBytes : Option FollowSettings → List Byte
  | some f =>
      [lineCode f.source, f.polarity.code, lineCode f.target, f.action.code] ++ bytes24 f.action.widthField
        ++ bytes24 f.delay ++ natBytes16 f.shots ++ [f.retrigger.code, f.late.code, flagCode f.report]
  | none => List.replicate 15 0

/-- R200: phase, then due; 0xFF and 0 when the rule has no entry. -/
def followEntryBytes : Option (Phase × Stamp) → List Byte
  | some (p, due) => [p.code] ++ bytes48 due
  | none => [0xFF] ++ bytes48 0

/-- R200. -/
def RuleRecord.bytes (r : RuleRecord) : List Byte :=
  [ruleCode r.id, r.state.code] ++ settingsBytes r.settings ++ natBytes16 r.shotsRemaining ++ natBytes32 r.fires
    ++ natBytes32 r.misses ++ followEntryBytes r.entry

def LinkCounters.bytes (c : LinkCounters) : List Byte :=
  natBytes16 c.framing ++ natBytes16 c.length ++ natBytes16 c.crc ++ natBytes16 c.cls ++ natBytes16 c.overrun
    ++ natBytes16 c.duplicate

/-- R201. -/
def Snapshot.bytes (s : Snapshot) : List Byte :=
  [s.state.code, s.reasons.code, flagCode s.holdGuard, natByte s.prescale] ++ bytes48 s.time ++ natBytes16 s.offset
    ++ bytes32 s.cycle ++ natBytes32 s.length ++ stagedBytes s.staged ++ [natByte s.agendaHeld]
    ++ natBytes16 s.queueHeld ++ natBytes16 s.unread ++ natBytes32 s.lossCount ++ [natByte s.noticesHeld]
    ++ natBytes32 s.noticesLost ++ s.rules.map RuleState.code ++ s.counters.bytes

/-- R181's items in the order of R197. -/
def identityBytes : List Byte :=
  [0x45] ++ bytes16 0x4C16 ++ [1, 16] ++ [natByte Config.agendaCapacity] ++ natBytes16 Config.queueCapacity
    ++ [8, natByte Config.noticeCapacity]

/-- A pattern's boundary action and edges as stored (R197). -/
def Pattern.bytes (p : Pattern) : List Byte :=
  [p.boundary.code] ++ p.edges.flatMap fun e => natBytes16 e.offset ++ [e.action.code]

/-- The newest SENT nseq with its flag (R197). -/
def newestSentBytes : Option Half → List Byte
  | some n => [1] ++ bytes16 n
  | none => [0] ++ bytes16 0

/-- What follows the result code (R197). -/
def ReplyData.bytes : ReplyData → List Byte
  | .codeOnly => []
  | .identity => identityBytes
  | .status snapshot => snapshot.bytes
  | .await time value => bytes48 time ++ natBytes32 value
  | .start state time => [state.code] ++ bytes48 time
  | .stop time offset cycle => bytes48 time ++ natBytes16 offset ++ bytes32 cycle
  | .lengths length staged => natBytes32 length ++ stagedBytes staged
  | .reasons r => [r.code]
  | .voided count => [natByte count]
  | .lines records => records.flatMap LineRecord.bytes
  | .pattern active takeover stored => [active.code, takeoverCode? takeover] ++ stored.bytes
  | .slots active takeover => [active.code, takeoverCode? takeover]
  | .captures moreUnread entries =>
      [natByte entries.length, flagCode moreUnread] ++ entries.flatMap QueueEntry.bytes
  | .released gone held => natBytes16 gone ++ natBytes16 held
  | .watermark w unread => natBytes16 w ++ natBytes16 unread
  | .scheduled free outcomes => [natByte free] ++ outcomes.map OrderOutcome.code
  | .removed count => [natByte count]
  | .agenda time held entries =>
      bytes48 time ++ [natByte held, natByte entries.length] ++ entries.flatMap AgendaEntry.bytes
  | .rule record => record.bytes
  | .armed state shotsRemaining => [state.code] ++ natBytes16 shotsRemaining
  | .ruleState state => [state.code]
  | .cleared phase => [phaseCode? phase]
  | .acknowledged gone held head newestSent =>
      [natByte gone, natByte held] ++ bytes16 head ++ newestSentBytes newestSent
  | .notices mask interval held lost => [mask, interval, natByte held] ++ natBytes32 lost
  | .cancelled phase => [phase.code]
  | .scheduleError index free => [natByte index, natByte free]
  | .offsetError index checkLength => [natByte index] ++ natBytes32 checkLength

/-- A reply's payload (R172). -/
def Reply.bytes (r : Reply) : List Byte := r.code.code :: r.data.bytes

/-- The notice codes (R202). -/
def NoticeBody.code : NoticeBody → BitVec 6
  | .restarted .. => 0x01
  | .holdEntered .. => 0x02
  | .holdLeft => 0x03
  | .captureReady .. => 0x04
  | .queueWatermark .. => 0x05
  | .queueLoss .. => 0x06
  | .edgeDone .. => 0x07
  | .slotTaken .. => 0x08
  | .patternClipped .. => 0x09
  | .followMiss .. => 0x0A
  | .followSpent .. => 0x0B
  | .noticeLost .. => 0x0C

/-- The body of each kind (R202). -/
def NoticeBody.bytes : NoticeBody → List Byte
  | .restarted cause => [cause.code]
  | .holdEntered reasons => [reasons.code]
  | .holdLeft => []
  | .captureReady unread head => natBytes16 unread ++ bytes16 head
  | .queueWatermark unread => natBytes16 unread
  | .queueLoss line stamp => [lineCode line] ++ bytes48 stamp
  | .edgeDone tag line stamp phase => bytes16 tag ++ [lineCode line] ++ bytes48 stamp ++ [phase.code]
  | .slotTaken line slot cycle => [lineCode line, slot.code] ++ bytes32 cycle
  | .patternClipped line slot count => [lineCode line, slot.code, natByte count]
  | .followMiss id reason stamp => [ruleCode id, reason.code] ++ bytes48 stamp
  | .followSpent id => [ruleCode id]
  | .noticeLost count => natBytes32 count

/-- A notice frame's payload (R202). -/
def NoticeContent.bytes (c : NoticeContent) : List Byte := bytes16 c.nseq ++ bytes48 c.stamp ++ c.body.bytes

/-- SEQ of a frame on TXD (R172, R176). -/
def TxFrame.seq : TxFrame → Byte
  | .reply f => f.seq
  | .deferredReply f => f.seq
  | .firstSending c => c.nseq.extractLsb' 0 8
  | .repeatSending c => c.nseq.extractLsb' 0 8

/-- KIND of a frame on TXD: class 01 for a reply, 10 for a notice (R163). -/
def TxFrame.kind : TxFrame → Byte
  | .reply f => 1#2 ++ f.kind
  | .deferredReply f => 1#2 ++ f.kind
  | .firstSending c => 2#2 ++ c.body.code
  | .repeatSending c => 2#2 ++ c.body.code

def TxFrame.payload : TxFrame → List Byte
  | .reply f => f.reply.bytes
  | .deferredReply f => f.reply.bytes
  | .firstSending c => c.bytes
  | .repeatSending c => c.bytes

/-- The characters that leave on TXD (R162). -/
def TxFrame.bytes (f : TxFrame) : List Byte := frameBytes f.seq f.kind f.payload

/-- The levels of a frame on TXD, one a bit time, character after character (R160). -/
def TxFrame.levels (f : TxFrame) : List Level := f.bytes.flatMap characterLevels

/-- TXD `n` bit times after the frame in transmission began. It is high while idle (R160, R176) and while a hardware reset
lasts (R178). -/
def State.txd (s : State) (n : Nat) : Level :=
  if s.power.inReset then .high
  else
    match s.link.tx with
    | .idle => .high
    | .sending f => f.levels.getD n .high

end Sys2Proof.Machine
end

