-- ==== Sys2Proof/Safety.lean ====
section
/-! DEFINITION. What holds between any two steps: one decidable predicate per block, and their conjunction. -/

namespace Sys2Proof.Safety

open Sys2Proof.Machine

/-! ## Timebase -/

/-- A cycle length (R8). -/
abbrev LengthOk (n : Nat) : Prop := 2 ≤ n ∧ n ≤ 65536

/-- The timebase's ranges; a staged length differs from L (R10); a timebase in RUNNING has no hold reason and one in
HELD has one (R5); the prescale count stands at zero outside RUNNING (R1). -/
abbrev TimebaseOk (t : Timebase) : Prop :=
  LengthOk t.length ∧ t.offset < t.length ∧ (∀ n ∈ t.staged, LengthOk n ∧ n ≠ t.length) ∧ t.prescale ≤ 8
    ∧ t.count ≤ 2 ^ t.prescale ∧ (t.state ≠ .running → t.count = 0)
    ∧ (t.state = .running → t.reasons.isEmpty = true) ∧ (t.state = .held → t.reasons.isEmpty = false)

/-! ## Lines -/

/-- A pattern (R105): at most six edges, at strictly increasing offsets of 16 bits. -/
abbrev PatternOk (p : Pattern) : Prop :=
  p.edges.length ≤ 6 ∧ increasingOffsets p.edges = true ∧ ∀ e ∈ p.edges, e.offset ≤ 65535

/-- A slot that is active holds a pattern (R106). -/
abbrev ActiveOk (l : Line) : Prop := l.active = .noSlot ∨ (l.slot l.active).isSome = true

/-- A pending takeover that names a slot names one that is filled and not active (R106). -/
abbrev TakeoverOk (l : Line) : Prop :=
  ∀ t ∈ l.takeover, t = .noSlot ∨ (t ≠ l.active ∧ (l.slot t).isSome = true)

/-- A line out of DRIVE holds no level, slot or takeover (R22, R29, R106). -/
abbrev LineIdle (l : Line) : Prop :=
  l.level = none ∧ l.saved = none ∧ l.frozen = none ∧ l.slotA = none ∧ l.slotB = none ∧ l.active = .noSlot
    ∧ l.takeover = none

/-- A drive line has a line level outside hold, and a saved and a frozen level during hold (R22, R31, R34). -/
abbrev LevelsOk (inHold : Bool) (l : Line) : Prop :=
  l.level.isSome = !inHold ∧ l.saved.isSome = inHold ∧ l.frozen.isSome = inHold

/-- A line in DRIVE. -/
abbrev DriveOk (inHold : Bool) (l : Line) : Prop :=
  LevelsOk inHold l ∧ (∀ p ∈ l.slotA, PatternOk p) ∧ (∀ p ∈ l.slotB, PatternOk p) ∧ ActiveOk l ∧ TakeoverOk l

/-- The filter of a capture line is at most 1023 (R22). -/
def filterOk : LineMode → Bool
  | .capture _ filter => filter ≤ 1023
  | .off => true
  | .drive .. => true

abbrev LineOk (inHold : Bool) (l : Line) : Prop :=
  filterOk l.mode = true ∧ (if l.isDrive then DriveOk inHold l else LineIdle l)

/-- Every line, with the hold reasons the timebase holds. -/
abbrev LinesOk (s : State) : Prop := ∀ i : LineId, LineOk s.inHold (s.line i)

/-! ## Capture Qualifiers -/

/-- The level an edge leads to (R41). -/
def Edge.level : Edge → Level
  | .rise => .high
  | .fall => .low

/-- A candidate stands only on a capture line whose polarity takes its edge, with a count of 1 to the filter, and its
level is the last sample (R39, R42 to R44). -/
def candidateOk (l : Line) (q : Qualifier) : Bool :=
  match q.state, l.mode with
  | .waiting, _ => true
  | .qualifying p _ r, .capture polarity filter =>
      polarity.accepts p && decide (1 ≤ r ∧ r ≤ filter) && q.last == some (Edge.level p)
  | .qualifying .., _ => false

/-- A line out of CAPTURE keeps no sample (R39, R50, R53). -/
def sampleOk (l : Line) (q : Qualifier) : Bool :=
  match l.mode with
  | .capture .. => true
  | .off => q.last.isNone
  | .drive .. => q.last.isNone

/-- Outside RUNNING no candidate stands (R49). -/
abbrev QualifierOk (s : State) (i : LineId) : Prop :=
  candidateOk (s.line i) (s.qualifiers.get i) = true ∧ sampleOk (s.line i) (s.qualifiers.get i) = true
    ∧ (s.timebase.state ≠ .running → (s.qualifiers.get i).state = .waiting)

abbrev QualifiersOk (s : State) : Prop := ∀ i : LineId, QualifierOk s i

/-! ## Capture Queue -/

/-- Consecutive numbers: each entry's qseq is the one before the next, and the last is next qseq less 1 (R55). -/
def consecutive (next : Half) : List Half → Bool
  | [] => true
  | [x] => x + 1 == next
  | x :: y :: rest => x + 1 == y && consecutive next (y :: rest)

/-- A count kept in 4 bytes, at least 1 (R59). -/
abbrev CountOk (n : Nat) : Prop := 1 ≤ n ∧ n ≤ 4294967295

/-- The lost count of a GAP entry (R54). -/
def entryOk : QueueEntry → Bool
  | .capture .. => true
  | .gap _ lost _ => decide (CountOk lost)

/-- R54 to R56 and R59: a pending loss stands only while the queue is full. -/
abbrev QueueOk (q : CaptureQueue) : Prop :=
  q.entries.length ≤ 256 ∧ consecutive q.nextQseq (q.entries.map (·.qseq)) = true
    ∧ q.position q.readPointer ≤ q.entries.length ∧ q.watermark ≤ 256 ∧ q.entries.all entryOk = true
    ∧ ∀ p ∈ q.loss, q.entries.length = 256 ∧ CountOk p.count

/-! ## Edge Agenda and Follow Table -/

/-- A pulse has a width of at least 1 (R76, R122). -/
def actionOk : Action → Bool
  | .single _ => true
  | .pulse _ width => width != 0

/-- R76, R77 and R99: a follow entry has its rule's tag, a host entry has a tag below 0xF000. -/
def originOk (e : AgendaEntry) : Bool :=
  match e.origin with
  | .host => decide (e.tag.toNat < 0xF000)
  | .follow k => e.tag == followTag k

/-- The rule of a follow entry is not EMPTY (R101). -/
def ownerOk (s : State) (e : AgendaEntry) : Bool :=
  match e.origin with
  | .host => true
  | .follow k => (s.rule k).isSome

/-- An entry held: its due lies in the future (R78), its line is in DRIVE (R79), only a pulse reaches TRAIL (R76). -/
abbrev EntryOk (s : State) (e : AgendaEntry) : Prop :=
  classify e.due s.timebase.time = .future ∧ (s.line e.line).isDrive = true ∧ actionOk e.action = true
    ∧ (e.action.isPulse = false → e.phase = .lead) ∧ originOk e = true ∧ ownerOk s e = true

/-- Nearest due first (R78). -/
abbrev sortedBy (now : Stamp) (l : List AgendaEntry) : Prop :=
  l.Pairwise fun a b => distance a.due now ≤ distance b.due now

/-- R77, R78 and R92. -/
abbrev AgendaOk (s : State) : Prop :=
  s.agenda.entries.length ≤ 64 ∧ (s.agenda.entries.map (·.tag)).Nodup ∧ sortedBy s.timebase.time s.agenda.entries
    ∧ (∀ e ∈ s.agenda.entries, EntryOk s e) ∧ s.agenda.history.length ≤ 16 ∧ s.agenda.history.Nodup

/-- A rule that is not EMPTY (R122, R123, R136): an ARMED rule with a shot limit has shots remaining, a SPENT one none. -/
abbrev RuleOk (r : FollowRule) : Prop :=
  actionOk r.settings.action = true ∧ r.settings.source ≠ r.settings.target ∧ r.settings.delay ≠ 0
    ∧ r.settings.shots ≤ 65535 ∧ r.shotsRemaining ≤ r.settings.shots
    ∧ (r.status = .armed → r.settings.shots ≠ 0 → r.shotsRemaining ≠ 0)
    ∧ (r.status = .spent → r.settings.shots ≠ 0 ∧ r.shotsRemaining = 0)
    ∧ r.fires ≤ 4294967295 ∧ r.misses ≤ 4294967295

abbrev RulesOk (s : State) : Prop := ∀ k : RuleId, ∀ r ∈ s.rule k, RuleOk r

/-! ## Notice Queue -/

/-- Whether a record is a NOTICE_LOST. -/
def isLost (n : Notice) : Bool :=
  match n.content.body with
  | .noticeLost _ => true
  | _ => false

/-- The count of a NOTICE_LOST (R143). -/
def bodyOk (n : Notice) : Bool :=
  match n.content.body with
  | .noticeLost count => decide (CountOk count)
  | _ => true

/-- The oldest UNSENT record is the one whose first sending is in transmission (R149); its content is what the frame
carries, but that the count of a NOTICE_LOST may have risen (R148). -/
def firstSendingOk (q : NoticeQueue) (tx : Transmitter) : Bool :=
  match tx.firstSent, q.records.find? (!·.sent) with
  | none, _ => true
  | some _, none => false
  | some c, some n =>
      n.content.nseq == c.nseq && n.content.stamp == c.stamp
        && (n.content.body == c.body ||
          match n.content.body, c.body with
          | .noticeLost now, .noticeLost sent => decide (sent < now)
          | _, _ => false)

/-- R142, R144, R146, R147, R149 to R151 and R157. -/
abbrev NoticesOk (q : NoticeQueue) (tx : Transmitter) : Prop :=
  q.records.length ≤ 32 ∧ consecutive q.nextNseq (q.records.map (·.content.nseq)) = true
    ∧ (q.records.filter fun n => !isLost n).length ≤ 31
    ∧ (q.records.length = 32 → q.records.getLast?.any isLost = true)
    ∧ q.records.all bodyOk = true
    ∧ q.records.Pairwise (fun a b => b.sent = true → a.sent = true)
    ∧ (∀ n ∈ q.records, n.mark = true → n.sent = true)
    ∧ q.pendingLost ≤ 4294967295
    ∧ (q.pendingLost ≠ 0 → q.records.length = 32 ∧ q.anySent = true ∧ q.records.all (·.sent) = true)
    ∧ (q.timer.isSome = true → q.interval ≠ 0)
    ∧ firstSendingOk q tx = true

/-! ## Control Link -/

abbrev CountersOk (c : LinkCounters) : Prop :=
  c.framing ≤ 65535 ∧ c.length ≤ 65535 ∧ c.crc ≤ 65535 ∧ c.cls ≤ 65535 ∧ c.overrun ≤ 65535 ∧ c.duplicate ≤ 65535

/-- The receiver holds what its state says (R165). -/
def receiverOk : Receiver → Bool
  | .hunt => true
  | .len => true
  | .header n _ => n.toNat ≤ 240
  | .body n _ _ payload => decide (n.toNat ≤ 240 ∧ payload.length < n.toNat)
  | .check _ _ payload _ => payload.length ≤ 240

/-- The frame in transmission is still in its slot, unless it is a notice (R172 to R175). -/
def sendingOk (l : Link) : Bool :=
  match l.tx with
  | .sending (.reply f) => l.replySlot == some f
  | .sending (.deferredReply f) => l.deferredSlot == some f
  | .sending (.firstSending _) => true
  | .sending (.repeatSending _) => true
  | .idle => true

/-- The deferred request and the two things that follow it (R171, R173, R187): the deferred-reply slot is filled exactly
when the await timer has stopped, and a DEFERRED record is the deferred request's own. -/
def deferredOk (l : Link) : Bool :=
  match l.deferred with
  | none => l.deferredSlot.isNone && l.lastTaken.all fun r => r.state != .deferred
  | some d =>
      decide (1 ≤ d.timeoutMs ∧ d.timeoutMs ≤ 60000) && d.timer.isNone == l.deferredSlot.isSome
        && (l.deferredSlot.all fun f => f.seq == d.seq && f.kind == 0x03)
        && l.lastTaken.all fun r => r.state != .deferred || (r.seq == d.seq && r.check == d.check)

/-- R168, R169 and R190: a frame waits, and a RESTART is pending, only while the reply slot is occupied. -/
abbrev LinkOk (l : Link) : Prop :=
  CountersOk l.counters ∧ receiverOk l.rx = true ∧ sendingOk l = true ∧ deferredOk l = true
    ∧ (l.waiting.isSome = true → l.replySlot.isSome = true)
    ∧ (l.restartPending = true → l.replySlot.isSome = true)
    ∧ ∀ f ∈ l.waiting, f.payload.length ≤ 240

/-- While the await timer runs the condition is false (R186, R187). -/
abbrev AwaitOk (s : State) : Prop := ∀ d ∈ s.link.awaiting, d.condition.holds s = false

/-! ## Reset -/

/-- While a hardware reset lasts every block has its reset values and no notice is held (R193; DESIGN CHOICE, log
entry 11). -/
abbrev PowerOk (s : State) : Prop :=
  if s.power.inReset then
    s.timebase = .reset ∧ s.lines = .replicate 16 .reset ∧ s.qualifiers = .replicate 16 .reset ∧ s.queue = .reset
      ∧ s.agenda = .reset ∧ s.rules = .replicate 8 none ∧ s.notices = .empty ∧ s.link = .reset s.link.rate
  else s.power = .reset

/-- All of it. -/
abbrev Inv (s : State) : Prop :=
  TimebaseOk s.timebase ∧ LinesOk s ∧ QualifiersOk s ∧ QueueOk s.queue ∧ AgendaOk s ∧ RulesOk s
    ∧ NoticesOk s.notices s.link.tx ∧ LinkOk s.link ∧ AwaitOk s ∧ PowerOk s

end Sys2Proof.Safety
end

