-- ==== Sys2Proof/Certificates/Slice0/Obligations.lean ====
section
/-! DEFINITION. The statements about the model. A request's statement gives the whole next state with `answered`: what
the right side does not write is unchanged, so each of them is also the command's frame. -/

namespace Sys2Proof.Claims

open Sys2Proof.Machine Sys2Proof.Safety

/-! ## Words the statements share -/

/-- The good frame of a request (R162, R164). -/
abbrev frameOf (seq : Byte) (r : Request) : RequestFrame := requestFrame seq r.kind r.payload

/-- The command a request's frame is. -/
def command (seq : Byte) (pins : Half) : Request → Instr
  | .identify => .identify seq
  | .status clear => .status seq clear
  | .await condition argument timeout => .await seq condition argument timeout
  | .restart => .restart seq
  | .start origin => .start seq origin
  | .stop => .stop seq
  | .setTimebase exponent length holdGuard => .setTimebase seq exponent length holdGuard
  | .hold => .hold seq
  | .resume => .resume seq
  | .setLine line mode polarity filter idle holdAction => .setLine seq line mode polarity filter idle holdAction
  | .readLines => .readLines seq pins
  | .writeSlot line slot boundary edges => .writeSlot seq line slot boundary edges
  | .clearPattern line => .clearPattern seq line
  | .readCaptures source qseq max => .readCaptures seq source qseq max
  | .releaseCaptures upto => .releaseCaptures seq upto
  | .setQueue watermark => .setQueue seq watermark
  | .schedule orders => .schedule seq orders
  | .cancel tag complete => .cancel seq tag complete
  | .cancelLine line => .cancelLine seq line
  | .listAgenda first count => .listAgenda seq first count
  | .setFollow id settings => .setFollow seq id settings
  | .armFollow id => .armFollow seq id
  | .disarmFollow id => .disarmFollow seq id
  | .clearFollow id => .clearFollow seq id
  | .readFollow id => .readFollow seq id
  | .ackNotices upto => .ackNotices seq upto
  | .setNotices mask interval => .setNotices seq mask interval

/-- No hardware reset lasts, nothing waits before the frame, and it does not repeat the last-taken record: the request
is taken when it arrives and handed to its owner (R168, R169, R171). -/
abbrev Takes (s : State) (seq : Byte) (r : Request) : Prop :=
  s.power.inReset = false ∧ s.link.waiting = none ∧ s.link.replySlot = none
    ∧ s.link.repeatOf seq (frameOf seq r).check = none

/-- The reply frame of a request (R172). -/
abbrev replyTo (seq : Byte) (r : Request) (reply : Reply) : ReplyFrame := { seq := seq, kind := r.kind, reply := reply }

/-- `s` with the reply placed and the record replaced (R169 steps 5 and 6); an IDLE transmitter begins the reply
(R175). -/
def answered (s : State) (seq : Byte) (r : Request) (reply : Reply) : State :=
  { s with link := { s.link with
      replySlot := some (replyTo seq r reply)
      lastTaken := some { seq := seq, check := (frameOf seq r).check, state := .completed reply }
      tx := if s.link.tx = .idle then .sending (.reply (replyTo seq r reply)) else s.link.tx } }

/-- A refused request: nothing but the reply. -/
abbrev refusedWith (code : ResultCode) (s : State) (seq : Byte) (r : Request) : State :=
  answered s seq r { code := code, data := .codeOnly }

/-- An OK reply. -/
abbrev okay (data : ReplyData) : Reply := { code := .ok, data := data }

/-- TL0 to TL15, ascending. -/
abbrev allLines : List LineId := [0, 1, 2, 3, 4, 5, 6, 7, 8, 9, 10, 11, 12, 13, 14, 15]

/-- Rules 0 to 7, ascending. -/
abbrev allRules : List RuleId := [0, 1, 2, 3, 4, 5, 6, 7]

/-- The level found on a TL pin. -/
def levelOn (pins : Half) (i : LineId) : Level := if pins.getLsbD i.val then .high else .low

/-- The level a line drives; none where it is no drive line (R25, R31). -/
def driven (l : Line) : Option Level :=
  match l.mode with
  | .drive _ h =>
      if l.saved = none then l.level
      else match h with
        | .freeze => l.frozen
        | .forceLow => some .low
        | .forceHigh => some .high
  | _ => none

/-- The edges of the active pattern at or beyond a length (R116, R117). -/
def clippedEdges (l : Line) (length : Nat) : Nat :=
  match (match l.active with
    | .noSlot => none
    | .slotA => l.slotA
    | .slotB => l.slotB : Option Pattern) with
  | some p => (p.edges.filter fun e => length ≤ e.offset).length
  | none => 0

/-- The width a pulse has; 0 for a single action (R195). -/
def widthOf : Action → Nat
  | .single _ => 0
  | .pulse _ w => w.toNat

/-! ## Layouts -/

/-- A number in `size` bytes, least significant byte first (R195). -/
def little (n size : Nat) : List Byte := (List.range size).map fun k => BitVec.ofNat 8 (n / 256 ^ k)

/-- Fields one after the other, each a number and its size in bytes. -/
def layout (fields : List (Nat × Nat)) : List Byte := fields.flatMap fun f => little f.1 f.2

end Sys2Proof.Claims

open Sys2Proof Sys2Proof.Machine Sys2Proof.Safety Sys2Proof.Claims

/-! ## The queue, and the taking of a request -/

/-- A step takes the command at the front and runs it on the rest of the queue (log entry 16). -/
def Obligations.FrontCommandRunsOnTheRest : Prop :=
  ∀ (c : Instr) (rest : List Instr) (s : State), s.pending = c :: rest → step s = exec c { s with pending := rest }

/-- Every command that a frame or a pin can show has a next state, and leaves the queue alone; a term that no frame can
carry is refused (log entry 9). -/
def Obligations.CommandsCompleteAndKeepTheQueue : Prop :=
  ∀ (c : Instr) (s : State),
    (c.wellFormed = true → ∃ t, exec c s = .next t ∧ t.pending = s.pending)
      ∧ (c.wellFormed = false → exec c s = .refused .malformed)

/-- A request that cannot be taken at its arrival: lost, stored, answered from the cache, or discarded. -/
def Obligations.ArrivalsThatAreNotTaken : Prop :=
  ∀ (seq : Byte) (pins : Half) (r : Request) (s : State), r.wellFormed = true → s.power.inReset = false →
    (s.link.waiting.isSome = true →
      exec (command seq pins r) s
        = .next { s with link := { s.link with
            counters := { s.link.counters with overrun := satInc16 s.link.counters.overrun } } }.transmit)
    ∧ (s.link.waiting = none → s.link.replySlot.isSome = true →
      exec (command seq pins r) s
        = .next { s with link := { s.link with waiting := some (frameOf seq r) } }.transmit)
    ∧ (s.link.waiting = none → s.link.replySlot = none → ∀ cached : Reply,
      s.link.lastTaken = some { seq := seq, check := (frameOf seq r).check, state := .completed cached } →
      exec (command seq pins r) s
        = .next (answered { s with link := { s.link with
            counters := { s.link.counters with duplicate := satInc16 s.link.counters.duplicate } } } seq r cached))
    ∧ (s.link.waiting = none → s.link.replySlot = none →
      s.link.lastTaken = some { seq := seq, check := (frameOf seq r).check, state := .deferred } →
      exec (command seq pins r) s
        = .next { s with link := { s.link with
            counters := { s.link.counters with duplicate := satInc16 s.link.counters.duplicate } } }.transmit)

/-! ## Frames -/

/-- Every request's payload reads back as that request, every operand at every value. -/
def Obligations.PayloadReadsBack : Prop :=
  ∀ r : Request, r.wellFormed = true → parseRequest r.kind r.payload = .request r

/-- A character on RXD and TXD (R160, R161): a low start bit, the data bits from the least significant, a high stop bit;
read back with its value and whether the stop bit was high. TXD carries the characters of the frame in transmission, one
level a bit time, and is high while idle or in a hardware reset. The bit rates. -/
def Sys2Proof.Claims.CharactersLaidOut : Prop :=
  let bit (b : Byte) (k : Nat) : Level := if b.getLsbD k then .high else .low
  let character (b : Byte) (stop : Level) : List Level :=
    [.low, bit b 0, bit b 1, bit b 2, bit b 3, bit b 4, bit b 5, bit b 6, bit b 7, stop]
  (∀ b : Byte, characterLevels b = character b .high)
    ∧ (∀ (b : Byte) (stop : Level), readCharacter (character b stop) = some (b, decide (stop = .high)))
    ∧ (∀ f : TxFrame, f.levels = f.bytes.flatMap fun b => character b .high)
    ∧ (∀ (s : State) (n : Nat),
      ((s.power.inReset = true ∨ s.link.tx = .idle) → s.txd n = .high)
      ∧ (∀ (f : TxFrame) (k : Nat) (b : Byte), s.power.inReset = false → s.link.tx = .sending f → f.bytes[k]? = some b →
        n < 10 → (character b .high)[n]? = some (s.txd (10 * k + n))))
    ∧ (readRate false false).bitsPerSecond = 115200 ∧ (readRate false true).bitsPerSecond = 460800
    ∧ (readRate true false).bitsPerSecond = 1000000 ∧ (readRate true true).bitsPerSecond = 3000000

/-- A character's bits on the line, and the characters of a request's frame: received one after the other from HUNT, they
deliver that frame. -/
def Obligations.CharactersDeliverTheFrame : Prop :=
  CharactersLaidOut ∧ ∀ (seq : Byte) (r : Request) (s : State), r.wellFormed = true → s.link.rx = .hunt →
    (frameBytes seq (requestKindByte r.kind) r.payload).foldl (fun s b => s.receive b true) s
      = s.arrive (frameOf seq r) (answerFrame (frameOf seq r))

/-- The payload lengths of R196 for a kind. -/
def Sys2Proof.Claims.lengthAllowed (kind : BitVec 6) (n : Nat) : Prop :=
  (kind ∈ [0x01#6, 0x04#6, 0x09#6, 0x0B#6, 0x0C#6, 0x11#6] ∧ n = 0)
    ∨ (kind ∈ [0x02#6, 0x08#6, 0x15#6, 0x22#6, 0x29#6, 0x2A#6, 0x2B#6, 0x2C#6] ∧ n = 1)
    ∨ (kind ∈ [0x19#6, 0x1A#6, 0x23#6, 0x30#6, 0x31#6] ∧ n = 2)
    ∨ (kind = 0x21#6 ∧ n = 3) ∨ (kind = 0x18#6 ∧ n = 4) ∨ (kind = 0x0A#6 ∧ n = 6) ∨ (kind = 0x10#6 ∧ n = 7)
    ∨ (kind = 0x03#6 ∧ n = 9) ∨ (kind = 0x28#6 ∧ n = 16)
    ∨ (kind = 0x14#6 ∧ 3 ≤ n ∧ (n - 3) % 3 = 0) ∨ (kind = 0x20#6 ∧ n % 15 = 0)

/-- The link's two acceptance checks, in order: the kind, then the payload length. -/
def Obligations.AcceptanceChecks : Prop :=
  ∀ (kind : BitVec 6) (payload : List Byte), payload.length ≤ 240 →
    (parseRequest kind payload = .unknownKind ↔ ¬ ∃ n, lengthAllowed kind n)
      ∧ (parseRequest kind payload = .badLength ↔ (∃ n, lengthAllowed kind n) ∧ ¬ lengthAllowed kind payload.length)

/-- The frame check, step by step, its place in a frame, the receiver's comparison at the second check byte, and the
test value. -/
def Obligations.FrameCheckSteps : Prop :=
  checkValue [] = 0xFFFF
    ∧ (∀ (covered : List Byte) (b : Byte), checkValue (covered ++ [b])
        = checkBit (checkBit (checkBit (checkBit (checkBit (checkBit (checkBit (checkBit (checkValue covered)
            (b.getLsbD 7)) (b.getLsbD 6)) (b.getLsbD 5)) (b.getLsbD 4)) (b.getLsbD 3)) (b.getLsbD 2)) (b.getLsbD 1))
            (b.getLsbD 0))
    ∧ (∀ (reg : Half) (bit : Bool), checkBit reg bit
        = if bit ^^ reg.getLsbD 15 then (reg <<< 1) ^^^ 0x1021 else reg <<< 1)
    ∧ (∀ (seq kind : Byte) (payload : List Byte),
        frameCheck seq kind payload = checkValue (BitVec.ofNat 8 payload.length :: seq :: kind :: payload)
          ∧ frameBytes seq kind payload
              = [0xC3, BitVec.ofNat 8 payload.length, seq, kind] ++ payload
                ++ [(frameCheck seq kind payload).setWidth 8, (frameCheck seq kind payload >>> 8).setWidth 8])
    ∧ (∀ (s : State) (seq kind low high : Byte) (payload : List Byte),
        s.link.rx = .check seq kind payload (some low) →
        s.receive high true
          = if frameCheck seq kind payload ≠ high ++ low then s.discardFrame .crcDiffers
            else if kind.extractLsb' 6 2 ≠ 0 then s.discardFrame .notARequest
            else
              let f : RequestFrame := { seq := seq, kind := kind.extractLsb' 0 6, payload := payload, check := high ++ low }
              { s with link := { s.link with rx := .hunt } }.arrive f (answerFrame f))
    ∧ checkValue [0x31, 0x32, 0x33, 0x34, 0x35, 0x36, 0x37, 0x38, 0x39] = 0x29B1

/-- The codes of R195, and of the results (R197), with the bytes each field of a request is read from. -/
def Sys2Proof.Claims.CodesAsListed : Prop :=
  (∀ i : LineId, (lineCode i).toNat = i.val) ∧ (∀ (b : Byte) (i : LineId), readLine b = some i ↔ b.toNat = i.val)
    ∧ (∀ k : RuleId, (ruleCode k).toNat = k.val) ∧ (∀ (b : Byte) (k : RuleId), readRuleId b = some k ↔ b.toNat = k.val)
    ∧ (flagCode false = 0 ∧ flagCode true = 1 ∧ ∀ (b : Byte) (x : Bool), readFlag b = some x ↔ b = flagCode x)
    ∧ (Level.low.code = 0 ∧ Level.high.code = 1 ∧ (∀ l : Level, levelCode? (some l) = l.code) ∧ levelCode? none = 0xFF
      ∧ ∀ (b : Byte) (x : Level), readLevel b = some x ↔ b = x.code)
    ∧ (CapturePolarity.rise.code = 0 ∧ CapturePolarity.fall.code = 1 ∧ CapturePolarity.both.code = 2
      ∧ ∀ (b : Byte) (x : CapturePolarity), readCapturePolarity b = some x ↔ b = x.code)
    ∧ (FollowPolarity.rise.code = 0 ∧ FollowPolarity.fall.code = 1 ∧ FollowPolarity.either.code = 2
      ∧ ∀ (b : Byte) (x : FollowPolarity), readFollowPolarity b = some x ↔ b = x.code)
    ∧ (Edge.rise.code = 0 ∧ Edge.fall.code = 1)
    ∧ (HoldAction.freeze.code = 0 ∧ HoldAction.forceLow.code = 1 ∧ HoldAction.forceHigh.code = 2
      ∧ ∀ (b : Byte) (x : HoldAction), readHoldAction b = some x ↔ b = x.code)
    ∧ (LevelAction.set.code = 0 ∧ LevelAction.clear.code = 1 ∧ LevelAction.toggle.code = 2
      ∧ ∀ (b : Byte) (x : LevelAction), readLevelAction b = some x ↔ b = x.code)
    ∧ ((∀ a : LevelAction, (BoundaryAction.act a).code = a.code) ∧ BoundaryAction.keep.code = 5
      ∧ ∀ (b : Byte) (x : BoundaryAction), readBoundaryAction b = some x ↔ b = x.code)
    ∧ ((∀ a : LevelAction, (Action.single a).code = a.code) ∧ (∀ w : Span, (Action.pulse .high w).code = 3)
      ∧ (∀ w : Span, (Action.pulse .low w).code = 4)
      ∧ ∀ (b : Byte) (w : Span) (x : Action), readAction b w = some x
          ↔ b = x.code ∧ (∀ l v, x = .pulse l v → v = w ∧ w ≠ 0))
    ∧ (Phase.lead.code = 0 ∧ Phase.trail.code = 1 ∧ (∀ p : Phase, phaseCode? (some p) = p.code) ∧ phaseCode? none = 0xFF)
    ∧ (SlotSel.noSlot.code = 0 ∧ SlotSel.slotA.code = 1 ∧ SlotSel.slotB.code = 2
      ∧ (∀ x : SlotSel, takeoverCode? (some x) = x.code) ∧ takeoverCode? none = 0xFF)
    ∧ (FollowLate.fireNow.code = 0 ∧ FollowLate.miss.code = 1
      ∧ ∀ (b : Byte) (x : FollowLate), readFollowLate b = some x ↔ b = x.code)
    ∧ (Retrigger.restart.code = 0 ∧ Retrigger.ignore.code = 1
      ∧ ∀ (b : Byte) (x : Retrigger), readRetrigger b = some x ↔ b = x.code)
    ∧ (Origin.host.code = 0x00 ∧ ∀ k : RuleId, (Origin.follow k).code.toNat = 0x10 + k.val)
    ∧ (TimebaseState.stopped.code = 0 ∧ TimebaseState.running.code = 1 ∧ TimebaseState.held.code = 2)
    ∧ (∀ pin link : Bool, (HoldReasons.mk pin link).code.toNat = (if pin then 1 else 0) + (if link then 2 else 0))
    ∧ (RuleState.empty.code = 0 ∧ RuleState.disarmed.code = 1 ∧ RuleState.armed.code = 2 ∧ RuleState.spent.code = 3)
    ∧ (MissReason.targetMode.code = 0 ∧ MissReason.late.code = 1 ∧ MissReason.busy.code = 2
      ∧ MissReason.agendaFull.code = 3)
    ∧ (RestartCause.powerOn.code = 0 ∧ RestartCause.resetPin.code = 1 ∧ RestartCause.restartRequest.code = 2)
    ∧ (OrderOutcome.queued.code = 0 ∧ OrderOutcome.firedLate.code = 1)
    ∧ (ResultCode.ok.code = 0x00 ∧ ResultCode.cancelled.code = 0x01 ∧ ResultCode.unknownKind.code = 0x10
      ∧ ResultCode.badLength.code = 0x11 ∧ ResultCode.badField.code = 0x12 ∧ ResultCode.held.code = 0x13
      ∧ ResultCode.wrongState.code = 0x14 ∧ ResultCode.lineMode.code = 0x15 ∧ ResultCode.slotActive.code = 0x16
      ∧ ResultCode.agendaFull.code = 0x17 ∧ ResultCode.tagInUse.code = 0x18 ∧ ResultCode.tagReserved.code = 0x19
      ∧ ResultCode.late.code = 0x1A ∧ ResultCode.notFound.code = 0x1B ∧ ResultCode.alreadyFired.code = 0x1C
      ∧ ResultCode.notInQueue.code = 0x1D ∧ ResultCode.notRead.code = 0x1E ∧ ResultCode.notSent.code = 0x1F
      ∧ ResultCode.busy.code = 0x20 ∧ ResultCode.timeout.code = 0x21)

/-- The kinds and the fields of the requests (R196), with a SCHEDULE order (R199) and a rule's settings (R200). -/
def Sys2Proof.Claims.RequestsLaidOut : Prop :=
  (∀ o : RawOrder, o.bytes = layout [(o.tag.toNat, 2), (o.line.toNat, 1), (o.due.toNat, 6), (o.action.toNat, 1),
      (o.width.toNat, 3), (o.late.toNat, 1), (o.report.toNat, 1)])
    ∧ (∀ f : RawFollow, f.bytes = layout [(f.source.toNat, 1), (f.polarity.toNat, 1), (f.target.toNat, 1),
        (f.action.toNat, 1), (f.width.toNat, 3), (f.delay.toNat, 3), (f.shots.toNat, 2), (f.retrigger.toNat, 1),
        (f.late.toNat, 1), (f.report.toNat, 1)])
    ∧ ∀ r : Request, match r with
      | .identify => r.kind = 0x01 ∧ r.payload = []
      | .status clear => r.kind = 0x02 ∧ r.payload = layout [(clear.toNat, 1)]
      | .await condition argument timeout =>
          r.kind = 0x03 ∧ r.payload = layout [(condition.toNat, 1), (argument.toNat, 6), (timeout.toNat, 2)]
      | .restart => r.kind = 0x04 ∧ r.payload = []
      | .start origin => r.kind = 0x08 ∧ r.payload = layout [(origin.toNat, 1)]
      | .stop => r.kind = 0x09 ∧ r.payload = []
      | .setTimebase exponent length guard =>
          r.kind = 0x0A ∧ r.payload = layout [(exponent.toNat, 1), (length.toNat, 4), (guard.toNat, 1)]
      | .hold => r.kind = 0x0B ∧ r.payload = []
      | .resume => r.kind = 0x0C ∧ r.payload = []
      | .setLine line mode polarity filter idle holdAction =>
          r.kind = 0x10 ∧ r.payload = layout [(line.toNat, 1), (mode.toNat, 1), (polarity.toNat, 1), (filter.toNat, 2),
            (idle.toNat, 1), (holdAction.toNat, 1)]
      | .readLines => r.kind = 0x11 ∧ r.payload = []
      | .writeSlot line slot boundary edges =>
          r.kind = 0x14 ∧ r.payload = layout ([(line.toNat, 1), (slot.toNat, 1), (boundary.toNat, 1)]
            ++ edges.flatMap fun e => [(e.offset.toNat, 2), (e.action.toNat, 1)])
      | .clearPattern line => r.kind = 0x15 ∧ r.payload = layout [(line.toNat, 1)]
      | .readCaptures source q max =>
          r.kind = 0x18 ∧ r.payload = layout [(source.toNat, 1), (q.toNat, 2), (max.toNat, 1)]
      | .releaseCaptures q => r.kind = 0x19 ∧ r.payload = layout [(q.toNat, 2)]
      | .setQueue w => r.kind = 0x1A ∧ r.payload = layout [(w.toNat, 2)]
      | .schedule orders => r.kind = 0x20 ∧ r.payload = orders.flatMap RawOrder.bytes
      | .cancel tag complete => r.kind = 0x21 ∧ r.payload = layout [(tag.toNat, 2), (complete.toNat, 1)]
      | .cancelLine line => r.kind = 0x22 ∧ r.payload = layout [(line.toNat, 1)]
      | .listAgenda first count => r.kind = 0x23 ∧ r.payload = layout [(first.toNat, 1), (count.toNat, 1)]
      | .setFollow id f => r.kind = 0x28 ∧ r.payload = layout [(id.toNat, 1)] ++ f.bytes
      | .armFollow id => r.kind = 0x29 ∧ r.payload = layout [(id.toNat, 1)]
      | .disarmFollow id => r.kind = 0x2A ∧ r.payload = layout [(id.toNat, 1)]
      | .clearFollow id => r.kind = 0x2B ∧ r.payload = layout [(id.toNat, 1)]
      | .readFollow id => r.kind = 0x2C ∧ r.payload = layout [(id.toNat, 1)]
      | .ackNotices n => r.kind = 0x30 ∧ r.payload = layout [(n.toNat, 2)]
      | .setNotices mask interval => r.kind = 0x31 ∧ r.payload = layout [(mask.toNat, 1), (interval.toNat, 1)]

/-- The records of R198 to R200 and the snapshot of R201. What byte 3 of a drive line's record holds is a free value
(log entry 18). -/
def Sys2Proof.Claims.RecordsLaidOut : Prop :=
  (∀ (q : Half) (line : LineId) (polarity : Edge) (stamp : Stamp) (fired : List RuleId),
    ∃ set : Byte, (∀ k : RuleId, set.getLsbD k.val = true ↔ k ∈ fired)
      ∧ (QueueEntry.capture q line polarity stamp fired).bytes
        = layout [(0, 1), (q.toNat, 2), (line.val, 1), (polarity.code.toNat, 1), (set.toNat, 1), (stamp.toNat, 6)])
    ∧ (∀ (q : Half) (lost : Nat) (first : Stamp),
      (QueueEntry.gap q lost first).bytes = layout [(1, 1), (q.toNat, 2), (lost, 4), (first.toNat, 6)])
    ∧ (∀ e : AgendaEntry, e.bytes = layout [(e.tag.toNat, 2), (e.line.val, 1), (e.due.toNat, 6),
        (e.action.code.toNat, 1), (widthOf e.action, 3), (e.phase.code.toNat, 1), (e.origin.code.toNat, 1),
        ((flagCode e.report).toNat, 1)])
    ∧ (∀ l : LineRecord,
      l.bytes.drop 4 = layout [(l.pin.code.toNat, 1), ((levelCode? l.saved).toNat, 1), (l.active.code.toNat, 1),
          ((takeoverCode? l.takeover).toNat, 1)]
        ∧ match l.mode with
          | .off => l.bytes.take 4 = layout [(0, 1), (0, 1), (0, 2)]
          | .capture polarity filter => l.bytes.take 4 = layout [(1, 1), (polarity.code.toNat, 1), (filter, 2)]
          | .drive idle h => l.bytes.take 3 = layout [(2, 1), (idle.code.toNat, 1), (h.code.toNat, 1)])
    ∧ (∀ r : RuleRecord, r.bytes = layout ([(r.id.val, 1), (r.state.code.toNat, 1)]
        ++ (match r.settings with
          | some f => [(f.source.val, 1), (f.polarity.code.toNat, 1), (f.target.val, 1), (f.action.code.toNat, 1),
              (widthOf f.action, 3), (f.delay.toNat, 3), (f.shots, 2), (f.retrigger.code.toNat, 1),
              (f.late.code.toNat, 1), ((flagCode f.report).toNat, 1)]
          | none => [(0, 15)])
        ++ [(r.shotsRemaining, 2), (r.fires, 4), (r.misses, 4)]
        ++ (match r.entry with
          | some (phase, due) => [(phase.code.toNat, 1), (due.toNat, 6)]
          | none => [(0xFF, 1), (0, 6)])))
    ∧ (∀ s : Snapshot, s.bytes = layout ([(s.state.code.toNat, 1), (s.reasons.code.toNat, 1),
        ((flagCode s.holdGuard).toNat, 1), (s.prescale, 1), (s.time.toNat, 6), (s.offset, 2), (s.cycle.toNat, 4),
        (s.length, 4), (s.staged.getD 0, 4), (s.agendaHeld, 1), (s.queueHeld, 2), (s.unread, 2), (s.lossCount, 4),
        (s.noticesHeld, 1), (s.noticesLost, 4)]
        ++ (s.rules.map fun x => (x.code.toNat, 1))
        ++ [(s.counters.framing, 2), (s.counters.length, 2), (s.counters.crc, 2), (s.counters.cls, 2),
          (s.counters.overrun, 2), (s.counters.duplicate, 2)]))
    ∧ (∀ e : QueueEntry, e.bytes.length = match e with | .capture .. => 12 | .gap .. => 13)
    ∧ (∀ e : AgendaEntry, e.bytes.length = 16) ∧ (∀ l : LineRecord, l.bytes.length = 8)
    ∧ (∀ r : RuleRecord, r.bytes.length = 34) ∧ (∀ s : State, s.snapshot.bytes.length = 58)

/-- A reply's KIND, SEQ and payload: the result code, then the data of its kind (R172, R197). -/
def Sys2Proof.Claims.RepliesLaidOut : Prop :=
  (∀ f : ReplyFrame,
    ((TxFrame.reply f).kind = 0x40 + f.kind.setWidth 8 ∧ (TxFrame.reply f).seq = f.seq
      ∧ (TxFrame.reply f).payload = f.reply.code.code :: f.reply.data.bytes)
      ∧ (TxFrame.deferredReply f).kind = (TxFrame.reply f).kind ∧ (TxFrame.deferredReply f).seq = f.seq
      ∧ (TxFrame.deferredReply f).payload = (TxFrame.reply f).payload)
    ∧ ∀ d : ReplyData, match d with
      | .codeOnly => d.bytes = []
      | .identity => d.bytes = layout [(0x45, 1), (0x4C16, 2), (1, 1), (16, 1), (64, 1), (256, 2), (8, 1), (32, 1)]
      | .status snapshot => d.bytes = snapshot.bytes
      | .await time value => d.bytes = layout [(time.toNat, 6), (value, 4)]
      | .start state time => d.bytes = layout [(state.code.toNat, 1), (time.toNat, 6)]
      | .stop time offset cycle => d.bytes = layout [(time.toNat, 6), (offset, 2), (cycle.toNat, 4)]
      | .lengths length staged => d.bytes = layout [(length, 4), (staged.getD 0, 4)]
      | .reasons reasons => d.bytes = layout [(reasons.code.toNat, 1)]
      | .voided n => d.bytes = layout [(n, 1)]
      | .lines records => d.bytes = records.flatMap LineRecord.bytes
      | .pattern active takeover stored =>
          d.bytes = layout ([(active.code.toNat, 1), ((takeoverCode? takeover).toNat, 1), (stored.boundary.code.toNat, 1)]
            ++ stored.edges.flatMap fun e => [(e.offset, 2), (e.action.code.toNat, 1)])
      | .slots active takeover => d.bytes = layout [(active.code.toNat, 1), ((takeoverCode? takeover).toNat, 1)]
      | .captures more entries =>
          d.bytes = layout [(entries.length, 1), ((flagCode more).toNat, 1)] ++ entries.flatMap QueueEntry.bytes
      | .released removed held => d.bytes = layout [(removed, 2), (held, 2)]
      | .watermark w unread => d.bytes = layout [(w, 2), (unread, 2)]
      | .scheduled free outcomes => d.bytes = layout ((free, 1) :: outcomes.map fun o => (o.code.toNat, 1))
      | .removed n => d.bytes = layout [(n, 1)]
      | .agenda time held entries =>
          d.bytes = layout [(time.toNat, 6), (held, 1), (entries.length, 1)] ++ entries.flatMap AgendaEntry.bytes
      | .rule record => d.bytes = record.bytes
      | .armed state shots => d.bytes = layout [(state.code.toNat, 1), (shots, 2)]
      | .ruleState state => d.bytes = layout [(state.code.toNat, 1)]
      | .cleared phase => d.bytes = layout [((phaseCode? phase).toNat, 1)]
      | .acknowledged removed held head newest =>
          d.bytes = layout ([(removed, 1), (held, 1), (head.toNat, 2)] ++ match newest with
            | some n => [(1, 1), (n.toNat, 2)]
            | none => [(0, 1), (0, 2)])
      | .notices mask interval held lost =>
          d.bytes = layout [(mask.toNat, 1), (interval.toNat, 1), (held, 1), (lost, 4)]
      | .cancelled phase => d.bytes = layout [(phase.code.toNat, 1)]
      | .scheduleError index free => d.bytes = layout [(index, 1), (free, 1)]
      | .offsetError index checkLength => d.bytes = layout [(index, 1), (checkLength, 4)]

/-- The notice code, the body and the LEN of a notice frame by its kind (R202). -/
def Sys2Proof.Claims.noticeTable : NoticeBody → BitVec 6 × List (Nat × Nat) × Nat
  | .restarted cause => (0x01, [(cause.code.toNat, 1)], 9)
  | .holdEntered reasons => (0x02, [(reasons.code.toNat, 1)], 9)
  | .holdLeft => (0x03, [], 8)
  | .captureReady unread head => (0x04, [(unread, 2), (head.toNat, 2)], 12)
  | .queueWatermark unread => (0x05, [(unread, 2)], 10)
  | .queueLoss line stamp => (0x06, [(line.val, 1), (stamp.toNat, 6)], 15)
  | .edgeDone tag line stamp phase => (0x07, [(tag.toNat, 2), (line.val, 1), (stamp.toNat, 6), (phase.code.toNat, 1)], 18)
  | .slotTaken line slot cycle => (0x08, [(line.val, 1), (slot.code.toNat, 1), (cycle.toNat, 4)], 14)
  | .patternClipped line slot count => (0x09, [(line.val, 1), (slot.code.toNat, 1), (count, 1)], 11)
  | .followMiss id reason stamp => (0x0A, [(id.val, 1), (reason.code.toNat, 1), (stamp.toNat, 6)], 16)
  | .followSpent id => (0x0B, [(id.val, 1)], 9)
  | .noticeLost count => (0x0C, [(count, 4)], 12)

/-- A notice's KIND, SEQ and payload (R176, R202). -/
def Sys2Proof.Claims.NoticesLaidOut : Prop :=
  ∀ c : NoticeContent,
    (TxFrame.firstSending c).kind = 0x80 + (noticeTable c.body).1.setWidth 8
      ∧ (TxFrame.firstSending c).seq = c.nseq.setWidth 8
      ∧ (TxFrame.firstSending c).payload
        = layout ([(c.nseq.toNat, 2), (c.stamp.toNat, 6)] ++ (noticeTable c.body).2.1)
      ∧ (TxFrame.firstSending c).payload.length = (noticeTable c.body).2.2
      ∧ (TxFrame.repeatSending c).bytes = (TxFrame.firstSending c).bytes

/-- Every field in its place: the codes, the requests, the records and the snapshot, the replies, the notices, and the
frame around each. -/
def Obligations.RecordLayouts : Prop :=
  CodesAsListed ∧ RequestsLaidOut ∧ RecordsLaidOut ∧ RepliesLaidOut ∧ NoticesLaidOut
    ∧ ∀ f : TxFrame, f.bytes = [0xC3, BitVec.ofNat 8 f.payload.length, f.seq, f.kind] ++ f.payload
        ++ layout [((frameCheck f.seq f.kind f.payload).toNat, 2)]

/-! ## Device requests -/

/-- IDENTIFY has no fields, reports the part and changes nothing; sent again with the same SEQ it is answered from the
record. -/
def Obligations.IdentifyReportsThePart : Prop :=
  ∀ (seq : Byte) (s : State),
    (Takes s seq .identify → exec (.identify seq) s = .next (answered s seq .identify (okay .identity)))
      ∧ ReplyData.identity.bytes = [0x45, 0x16, 0x4C, 1, 16, 64, 0x00, 0x01, 8, 32]
      ∧ Request.identify.payload = []
      ∧ (s.power.inReset = false → s.link.waiting = none → s.link.replySlot = none → ∀ cached : Reply,
        s.link.lastTaken = some { seq := seq, check := (frameOf seq .identify).check, state := .completed cached } →
        exec (.identify seq) s
          = .next (answered { s with link := { s.link with
              counters := { s.link.counters with duplicate := satInc16 s.link.counters.duplicate } } } seq .identify
              cached))

/-- What READ_FOLLOW and SET_FOLLOW report of a rule (R139). -/
def Sys2Proof.Claims.reported (s : State) (k : RuleId) : RuleRecord :=
  match s.rule k with
  | some r =>
      { id := k
        state := match r.status with
          | .disarmed => .disarmed
          | .armed => .armed
          | .spent => .spent
        settings := some r.settings, shotsRemaining := r.shotsRemaining, fires := r.fires, misses := r.misses
        entry := match s.agenda.entries.find? fun e => e.tag == 0xF000 + BitVec.ofNat 16 k.val with
          | some e => some (e.phase, e.due)
          | none => none }
  | none => { id := k, state := .empty, settings := none, shotsRemaining := 0, fires := 0, misses := 0, entry := none }

/-- READ_LINES, LIST_AGENDA and READ_FOLLOW report and change nothing; the levels READ_LINES samples on input pins are
kept as the levels last presented (log entry 4). -/
def Obligations.ReadRequestsReportAndChangeNothing : Prop :=
  ∀ (seq : Byte) (s : State),
    (∀ pins : Half, Takes s seq .readLines → exec (.readLines seq pins) s
      = .next (answered { s with inputs := pins } seq .readLines (okay (.lines (allLines.map fun i =>
          { mode := (s.line i).mode
            pin := match driven (s.line i) with
              | some level => level
              | none => levelOn pins i
            saved := (s.line i).saved, active := (s.line i).active, takeover := (s.line i).takeover })))))
    ∧ (∀ first count : Byte, Takes s seq (.listAgenda first count) → exec (.listAgenda seq first count) s
      = .next (if 1 ≤ count.toNat ∧ count.toNat ≤ 12 then
          answered s seq (.listAgenda first count) (okay (.agenda s.timebase.time s.agenda.entries.length
            ((s.agenda.entries.drop first.toNat).take count.toNat)))
        else refusedWith .badField s seq (.listAgenda first count)))
    ∧ (∀ id : Byte, Takes s seq (.readFollow id) → exec (.readFollow seq id) s
      = .next (match readRuleId id with
        | some k => answered s seq (.readFollow id) (okay (.rule (reported s k)))
        | none => refusedWith .badField s seq (.readFollow id)))

/-- STATUS reports one snapshot, and clears the link counters after it when its flag is ON. -/
def Obligations.StatusSnapshotsThenClears : Prop :=
  ∀ (seq clear : Byte) (s : State), Takes s seq (.status clear) → exec (.status seq clear) s
    = .next (if clear = 0 ∨ clear = 1 then
        answered (if clear = 1 then { s with link := { s.link with counters := ⟨0, 0, 0, 0, 0, 0⟩ } } else s) seq
          (.status clear) (okay (.status
            { state := s.timebase.state, reasons := s.timebase.reasons, holdGuard := s.timebase.holdGuard
              prescale := s.timebase.prescale, time := s.timebase.time, offset := s.timebase.offset
              cycle := s.timebase.cycle, length := s.timebase.length, staged := s.timebase.staged
              agendaHeld := s.agenda.entries.length, queueHeld := s.queue.entries.length, unread := s.queue.unread
              lossCount := match s.queue.loss with
                | some p => p.count
                | none => 0
              noticesHeld := s.notices.records.length, noticesLost := s.notices.pendingLost
              rules := allRules.map fun k => match s.rule k with
                | some r => r.status.state
                | none => .empty
              counters := s.link.counters }))
      else refusedWith .badField s seq (.status clear))

/-- When a time is in the future, late or beyond the horizon, in numbers of (x - T) mod 2^48; when each condition of AWAIT
is true, and the value it tests; the arguments each takes. -/
def Obligations.AwaitConditions : Prop :=
  (∀ x now : Stamp,
    let d := (x.toNat + 2 ^ 48 - now.toNat) % 2 ^ 48
    distance x now = d
      ∧ (classify x now = .future ↔ 1 ≤ d ∧ d ≤ 2 ^ 40 - 1)
      ∧ (classify x now = .late ↔ d = 0 ∨ 2 ^ 48 - 2 ^ 40 + 1 ≤ d)
      ∧ (classify x now = .beyond ↔ 2 ^ 40 ≤ d ∧ d ≤ 2 ^ 48 - 2 ^ 40))
  ∧ (∀ s : State,
    (AwaitCondition.agendaEmpty none).value s = s.agenda.entries.length
      ∧ (∀ i : LineId, (AwaitCondition.agendaEmpty (some i)).value s
          = (s.agenda.entries.filter fun e => e.line == i).length)
      ∧ (∀ n : Nat, (AwaitCondition.unreadAtLeast n).value s = s.queue.unread)
      ∧ (∀ x : Stamp, (AwaitCondition.timeReached x).value s = 0)
      ∧ AwaitCondition.holdClear.value s
          = (if s.timebase.reasons.pin then 1 else 0) + (if s.timebase.reasons.link then 2 else 0))
  ∧ ∀ s : State,
    ((AwaitCondition.agendaEmpty none).holds s = true ↔ s.agenda.entries = [])
    ∧ (∀ i : LineId, (AwaitCondition.agendaEmpty (some i)).holds s = true ↔ ∀ e ∈ s.agenda.entries, e.line ≠ i)
    ∧ (∀ n : Nat, (AwaitCondition.unreadAtLeast n).holds s = true ↔ n ≤ s.queue.unread)
    ∧ (∀ x : Stamp, (AwaitCondition.timeReached x).holds s = true ↔ classify x s.timebase.time = .late)
    ∧ (AwaitCondition.holdClear.holds s = true ↔ s.timebase.reasons = ⟨false, false⟩)
    ∧ (∀ (argument now : Stamp), readCondition 0 argument now
        = if (argument.setWidth 8).toNat = 255 then some (.agendaEmpty none)
          else if h : (argument.setWidth 8).toNat < 16 then some (.agendaEmpty (some ⟨(argument.setWidth 8).toNat, h⟩))
          else none)
    ∧ (∀ (argument now : Stamp), readCondition 1 argument now
        = if 1 ≤ (argument.setWidth 16).toNat ∧ (argument.setWidth 16).toNat ≤ 256 then
            some (.unreadAtLeast (argument.setWidth 16).toNat)
          else none)
    ∧ (∀ (argument now : Stamp), readCondition 2 argument now
        = if classify argument now = .beyond then none else some (.timeReached argument))
    ∧ (∀ (argument now : Stamp), readCondition 3 argument now = some .holdClear)
    ∧ (∀ (c : Byte) (argument now : Stamp), 3 < c.toNat → readCondition c argument now = none)

/-- The events at which a condition is tested (R186). -/
def Sys2Proof.Claims.testedBy (c : AwaitCondition) : AwaitEvent → Prop
  | .removal line => c = .agendaEmpty none ∨ c = .agendaEmpty (some line)
  | .append => ∃ n, c = .unreadAtLeast n
  | .tick => ∃ x, c = .timeReached x
  | .startZero => ∃ x, c = .timeReached x
  | .holdCleared => c = .holdClear

/-- AWAIT: the range check, then BUSY, then an answer at once or the deferred request with its timer at 0. The test of a
deferred request at an event: while its timer runs, where the event tests its condition and it holds, the reply OK with T
and the value goes to the deferred-reply slot and the timer stops; otherwise nothing happens. -/
def Obligations.AwaitAnswersOrDefers : Prop :=
  (∀ (seq condition : Byte) (argument : Stamp) (timeout : Half) (s : State),
    Takes s seq (.await condition argument timeout) →
    exec (.await seq condition argument timeout) s
      = .next (
        let r := Request.await condition argument timeout
        match readCondition condition argument s.timebase.time with
        | none => refusedWith .badField s seq r
        | some c =>
          if timeout.toNat = 0 ∨ 60000 < timeout.toNat then refusedWith .badField s seq r
          else if s.link.deferred.isSome then refusedWith .busy s seq r
          else if c.holds s then answered s seq r (okay (.await s.timebase.time (c.value s)))
          else
            { s with link := { s.link with
              deferred := some
                { seq := seq, check := (frameOf seq r).check, condition := c, timeoutMs := timeout.toNat, timer := some 0 }
              lastTaken := some { seq := seq, check := (frameOf seq r).check, state := .deferred } } }.transmit))
  ∧ ∀ (s : State) (ev : AwaitEvent),
    (∀ d : Deferred, s.link.deferred = some d → d.timer ≠ none → testedBy d.condition ev → d.condition.holds s = true →
      s.awaitTest ev
        = { s with link := { s.link with
            deferred := some { d with timer := none }
            deferredSlot := some
              { seq := d.seq, kind := 0x03, reply := okay (.await s.timebase.time (d.condition.value s)) } } })
    ∧ ((∀ d : Deferred, s.link.deferred = some d →
        d.timer = none ∨ ¬ testedBy d.condition ev ∨ d.condition.holds s = false) →
      s.awaitTest ev = s)

/-! ## RESTART and the resets -/

/-- The values every block takes at a reset, with the queue of commands, the levels presented and the free counter as
they stand. -/
def Sys2Proof.Claims.afterReset (s : State) (cause : RestartCause) (rate : Rate) (holdAsserted : Bool) : State :=
  { s with
    timebase :=
      { state := .stopped, time := 0, offset := 0, cycle := 0, length := 10000, staged := none, prescale := 0
        holdGuard := false, count := 0, reasons := ⟨holdAsserted, false⟩ }
    lines := .replicate 16
      { mode := .off, level := none, saved := none, frozen := none, slotA := none, slotB := none, active := .noSlot
        takeover := none }
    qualifiers := .replicate 16 { state := .waiting, last := none }
    queue :=
      { entries := [], nextQseq := 0, readPointer := 0, loss := none, watermark := 0, readyFlag := true
        watermarkFlag := true }
    agenda := { entries := [], history := [] }
    rules := .replicate 8 none
    notices :=
      { records := [freshNotice 1 0 (.restarted cause)]
          ++ (if holdAsserted then [freshNotice 2 0 (.holdEntered ⟨true, false⟩)] else [])
        nextNseq := if holdAsserted then 3 else 2
        pendingLost := 0, mask := 0xFF, interval := 10, timer := none }
    link :=
      { rate := rate, rx := .hunt, waiting := none, lastTaken := none, deferred := none, replySlot := none
        deferredSlot := none, tx := .idle, counters := ⟨0, 0, 0, 0, 0, 0⟩, restartPending := false } }

/-- RESTART is answered first, and takes effect when that reply has been sent. That the first sample after it finds HOLD
as the last one did is the model's (log entry 15). -/
def Obligations.RestartAnswersThenResets : Prop :=
  (∀ (seq : Byte) (s : State), Takes s seq .restart → exec (.restart seq) s
      = .next (answered { s with link := { s.link with restartPending := true } } seq .restart (okay .codeOnly)))
    ∧ ∀ (pins : Half) (s : State) (f : ReplyFrame), s.power.inReset = false → s.link.restartPending = true →
        s.link.tx = .sending (.reply f) →
        exec (.replyComplete pins) s
          = .next (afterReset { s with inputs := pins } .restartRequest s.link.rate s.timebase.reasons.pin)

/-- POWER_UP, RESET_ASSERTED and VDD_BELOW_THRESHOLD begin a hardware reset: no notice is held, no pin is driven, and the
transmitter sends nothing; what the blocks hold meanwhile, and that VDD stands after POWER_UP, is the model's (log
entries 11 and 12). RESET_END: the cause from the power-up flag, which is cleared; the rate from the pins; every block's
reset value. -/
def Obligations.HardwareResetBeginsAndEnds : Prop :=
  (∀ s : State,
     let quiet (t : State) (p : Power) : Prop :=
       t.power = p ∧ t.attn = false ∧ (∀ i, t.pinShown i = none) ∧ t.link.tx = .idle ∧ t.link.rate = s.link.rate
         ∧ t.inputs = s.inputs ∧ t.freeCount = s.freeCount ∧ t.pending = s.pending
     (∃ t, exec .powerUp s = .next t ∧ quiet t { s.power with inReset := true, vddLow := false, powerUpFlag := true })
       ∧ (∃ t, exec .resetAsserted s = .next t ∧ quiet t { s.power with inReset := true, resetAsserted := true })
       ∧ (∃ t, exec .vddBelowThreshold s = .next t ∧ quiet t { s.power with inReset := true, vddLow := true }))
  ∧ (∀ (rate1 rate0 holdAsserted : Bool) (s : State), s.power.inReset = true → s.power.vddLow = false →
     exec (.resetEnd rate1 rate0 holdAsserted) s
       = .next { afterReset s (if s.power.powerUpFlag then .powerOn else .resetPin)
           (match rate1, rate0 with
             | false, false => .r115200
             | false, true => .r460800
             | true, false => .r1000000
             | true, true => .r3000000)
           holdAsserted with
           power := { inReset := false, resetAsserted := false, vddLow := false, powerUpFlag := false } })

/-! ## Timebase and hold -/

/-- The timebase as START sets it going, with the qualifiers told of an entry to RUNNING (R6, R49). -/
def Sys2Proof.Claims.setGoing (s : State) : State :=
  if s.timebase.reasons = ⟨false, false⟩ then
    { s with
      timebase := { s.timebase with state := .running, count := 0 }
      qualifiers := s.qualifiers.map fun q => { q with last := none } }
  else { s with timebase := { s.timebase with state := .held } }

/-- START: its checks in order, then RUNNING or HELD; ZERO makes the three counts 0, tested by a deferred AWAIT. -/
def Obligations.StartSetsTimeGoing : Prop :=
  ∀ (seq origin : Byte) (s : State), Takes s seq (.start origin) →
    exec (.start seq origin) s
      = .next (
        let r := Request.start origin
        let reply (t : State) : Reply :=
          okay (.start (if s.timebase.reasons = ⟨false, false⟩ then .running else .held) t.timebase.time)
        let zeroed := { s with timebase := { s.timebase with time := 0, offset := 0, cycle := 0 } }.awaitTest .startZero
        if origin ≠ 0 ∧ origin ≠ 1 then refusedWith .badField s seq r
        else if s.timebase.state ≠ .stopped then refusedWith .wrongState s seq r
        else if origin = 0 then answered (setGoing s) seq r (reply s)
        else if s.agenda.entries ≠ [] then refusedWith .wrongState s seq r
        else answered (setGoing zeroed) seq r (reply zeroed))

/-- STOP: STOPPED, the partial tick period discarded, candidates abandoned when RUNNING is left; nothing else. -/
def Obligations.StopHaltsTime : Prop :=
  ∀ (seq : Byte) (s : State), Takes s seq .stop →
    exec (.stop seq) s
      = .next (answered
        { s with
          timebase := { s.timebase with
            state := .stopped, count := if s.timebase.state = .stopped then s.timebase.count else 0 }
          qualifiers :=
            if s.timebase.state = .running then s.qualifiers.map fun q => { q with state := .waiting }
            else s.qualifiers }
        seq .stop (okay (.stop s.timebase.time s.timebase.offset s.timebase.cycle)))

/-- SET_TIMEBASE: its checks in order; in STOPPED the length at once, with the offset moved and clipped patterns
reported, otherwise staged, replaced or removed. That several lines report in ascending line number is the model's (log
entry 17). -/
def Obligations.SetTimebaseAppliesOrStages : Prop :=
  ∀ (seq exponent : Byte) (length : Quad) (guard : Byte) (s : State), Takes s seq (.setTimebase exponent length guard) →
    exec (.setTimebase seq exponent length guard) s
      = .next (
        let r := Request.setTimebase exponent length guard
        let n := length.toNat
        let set := { s.timebase with prescale := exponent.toNat, holdGuard := guard == 1 }
        if 8 < exponent.toNat ∨ n < 2 ∨ 65536 < n ∨ (guard ≠ 0 ∧ guard ≠ 1) then refusedWith .badField s seq r
        else if s.timebase.state = .stopped then
          let applied := { s with timebase := { set with
            length := n, staged := none, offset := if n ≤ s.timebase.offset then n - 1 else s.timebase.offset } }
          let report (t : State) (i : LineId) : State :=
            if (t.line i).isDrive = true ∧ 1 ≤ clippedEdges (t.line i) n then
              { t with
                notices := t.notices.raise t.timebase.time
                  (.patternClipped i (t.line i).active (clippedEdges (t.line i) n)) }
            else t
          answered (if n = s.timebase.length then applied else allLines.foldl report applied) seq r
            (okay (.lengths n none))
        else if exponent.toNat ≠ s.timebase.prescale then refusedWith .wrongState s seq r
        else
          let staged := if n = s.timebase.length then none else some n
          answered { s with timebase := { set with staged := staged } } seq r (okay (.lengths s.timebase.length staged)))

/-- The part when the hold reasons go from empty to `reasons` (R14, R31). -/
def Sys2Proof.Claims.holdEntered (s : State) (reasons : HoldReasons) : State :=
  { s with
    timebase := { s.timebase with
      state := if s.timebase.state = .running then .held else s.timebase.state
      count := if s.timebase.state = .running then 0 else s.timebase.count
      reasons := reasons }
    qualifiers :=
      if s.timebase.state = .running then s.qualifiers.map fun q => { q with state := .waiting } else s.qualifiers
    lines := s.lines.map fun l =>
      if l.isDrive then { l with level := none, saved := l.level, frozen := l.level } else l
    notices := s.notices.raise s.timebase.time (.holdEntered reasons) }

/-- Hold is entered by HOLD with {LINK} and by the pin with {PIN}. -/
def Obligations.HoldIsEntered : Prop :=
  ∀ (seq : Byte) (s : State), s.timebase.reasons = ⟨false, false⟩ →
    (Takes s seq .hold →
      exec (.hold seq) s = .next (answered (holdEntered s ⟨false, true⟩) seq .hold (okay (.reasons ⟨false, true⟩))))
    ∧ (s.power.inReset = false → exec .holdPinAsserted s = .next (holdEntered s ⟨true, false⟩).transmit)

/-- The part when the hold reasons become empty (R15, R34), before a deferred AWAIT is tested. -/
def Sys2Proof.Claims.holdLeft (s : State) : State :=
  { s with
    timebase := { s.timebase with
      state := if s.timebase.state = .held then .running else s.timebase.state
      count := if s.timebase.state = .held then 0 else s.timebase.count
      reasons := ⟨false, false⟩ }
    qualifiers :=
      if s.timebase.state = .held then s.qualifiers.map fun q => { q with last := none } else s.qualifiers
    lines := s.lines.map fun l => if l.isDrive then { l with level := l.saved, saved := none, frozen := none } else l
    notices := s.notices.raise s.timebase.time .holdLeft }

/-- Hold is left by RESUME from {LINK} and by the release of the pin from {PIN}. -/
def Obligations.HoldIsLeft : Prop :=
  ∀ (seq : Byte) (s : State),
    (s.timebase.reasons = ⟨false, true⟩ → Takes s seq .resume →
      exec (.resume seq) s
        = .next (answered ((holdLeft s).awaitTest .holdCleared) seq .resume (okay (.reasons ⟨false, false⟩))))
    ∧ (s.timebase.reasons = ⟨true, false⟩ → s.power.inReset = false →
      exec .holdPinReleased s = .next ((holdLeft s).awaitTest .holdCleared).transmit)

/-- Changes that leave the reasons non-empty before and after, and requests that change no reason: only the set and the
reply. -/
def Obligations.OtherReasonChangesDoNothingElse : Prop :=
  ∀ (seq : Byte) (s : State),
    let withReasons (r : HoldReasons) : State := { s with timebase := { s.timebase with reasons := r } }
    let pin := s.timebase.reasons.pin
    let link := s.timebase.reasons.link
    ((pin = true ∨ link = true) → Takes s seq .hold →
      exec (.hold seq) s = .next (answered (withReasons ⟨pin, true⟩) seq .hold (okay (.reasons ⟨pin, true⟩))))
    ∧ ((pin = true ∨ link = false) → Takes s seq .resume →
      exec (.resume seq) s = .next (answered (withReasons ⟨pin, false⟩) seq .resume (okay (.reasons ⟨pin, false⟩))))
    ∧ (pin = false → link = true → s.power.inReset = false →
      exec .holdPinAsserted s = .next (withReasons ⟨true, true⟩).transmit)
    ∧ (pin = true → link = true → s.power.inReset = false →
      exec .holdPinReleased s = .next (withReasons ⟨false, true⟩).transmit)

/-- The eleven requests of R18, each with whether its fields pass the range check that comes first. -/
def Sys2Proof.Claims.guardedInRange : Request → Option Bool
  | .schedule orders => some (1 ≤ orders.length && orders.length ≤ 8 && orders.all fun o => (readOrder o).isSome)
  | .cancel _ complete => some (complete == 0 || complete == 1)
  | .cancelLine line => some (line.toNat < 16)
  | .releaseCaptures _ => some true
  | .setLine line mode polarity filter idle holdAction =>
      some (line.toNat < 16 && (readMode mode polarity filter idle holdAction).isSome)
  | .writeSlot line slot boundary edges =>
      some (line.toNat < 16 && (readSlot slot).isSome && (readPattern boundary edges).isSome)
  | .clearPattern line => some (line.toNat < 16)
  | .setFollow id settings => some (id.toNat < 8 && (readFollow settings).isSome)
  | .armFollow id => some (id.toNat < 8)
  | .disarmFollow id => some (id.toNat < 8)
  | .clearFollow id => some (id.toNat < 8)
  | _ => none

/-- Under the hold guard the eleven requests are refused with HELD after their range check, and nothing else happens. -/
def Obligations.HoldGuardRefuses : Prop :=
  ∀ (seq : Byte) (pins : Half) (r : Request) (inRange : Bool) (s : State),
    r.wellFormed = true → guardedInRange r = some inRange → Takes s seq r →
    s.timebase.holdGuard = true → s.timebase.reasons ≠ ⟨false, false⟩ →
    ∃ data, exec (command seq pins r) s
        = .next (answered s seq r { code := if inRange then .held else .badField, data := data })
      ∧ data = match r with
        | .schedule orders => .scheduleError
            (if inRange ∨ 8 < orders.length then 0 else (orders.findIdx? fun o => (readOrder o).isNone).getD 0)
            (64 - s.agenda.entries.length)
        | _ => .codeOnly

/-! ## Ticks -/

/-- The counts of a tick (R2, R1): the offset is compared with the old length, and a staged length takes effect at the
boundary. -/
def Sys2Proof.Claims.ticked (t : Timebase) : Timebase :=
  if t.length ≤ t.offset + 1 then
    { t with
      time := t.time + 1, offset := 0, cycle := t.cycle + 1, count := 0
      length := match t.staged with
        | some n => n
        | none => t.length
      staged := none }
  else { t with time := t.time + 1, offset := t.offset + 1, count := 0 }

/-- The tick before its qualifications: counts and levels found, the deferred AWAIT, steps 1 and 2 of every line, the
expiries. -/
def Sys2Proof.Claims.untilExpiries (s : State) (pins : Half) : State :=
  ((({ s with timebase := ticked s.timebase, inputs := pins }).awaitTest .tick).patternSteps
    (decide (s.timebase.length ≤ s.timebase.offset + 1))
    (decide (s.timebase.length ≤ s.timebase.offset + 1) && s.timebase.staged.isSome)).expireDue

/-- What a tick at T = `now` that finds `pins` makes of a line's qualifier: in CAPTURE its sample, otherwise nothing. -/
def Sys2Proof.Claims.sampled (s : State) (i : LineId) (now : Stamp) (pins : Half) : Qualifier × Option (Edge × Stamp) :=
  match (s.line i).mode with
  | .capture polarity filter => (s.qualifiers.get i).sample polarity filter now (levelOn pins i)
  | _ => (s.qualifiers.get i, none)

/-- A tick in RUNNING takes its parts in order; nothing in it but the counts changes the timebase, and each qualifier
takes one sample, on a capture line. Each drive line takes step 1, at a boundary, and then step 2, TL0 first. That
CYCLE_BOUNDARY is that tick is log entry 1. That the pattern steps of all lines, with SLOT_TAKEN and PATTERN_CLIPPED, stand
before every expiry, with EDGE_DONE, is the model's order of notices of different blocks (log entry 8), and that an idle
transmitter chooses at the end of the tick is its choice (log entry 7). -/
def Obligations.TickTakesItsPartsInOrder : Prop :=
  (∀ (s : State) (boundary lengthTaken : Bool),
    s.patternSteps boundary lengthTaken
      = allLines.foldl (fun (t : State) i =>
          if (t.line i).isDrive then (if boundary then t.boundaryStep lengthTaken i else t).patternEdge i else t) s)
  ∧ ∀ (pins : Half) (s : State), s.power.inReset = false → s.timebase.state = .running →
    (∃ t, exec (.tick pins) s = .next t ∧ t = (untilExpiries s pins).qualify.transmit ∧ t.timebase = ticked s.timebase
        ∧ t.inputs = pins ∧ t.power = s.power ∧ t.freeCount = s.freeCount
        ∧ ∀ i, t.qualifiers.get i = (sampled s i (s.timebase.time + 1) pins).1)
      ∧ (s.timebase.length ≤ s.timebase.offset + 1 →
        ∃ t, exec (.cycleBoundary pins) s = .next t ∧ t = (untilExpiries s pins).qualify.transmit
          ∧ t.timebase.offset = 0 ∧ t.timebase.cycle = s.timebase.cycle + 1 ∧ t.timebase.time = s.timebase.time + 1
          ∧ t.timebase.staged = none ∧ t.timebase.length = s.timebase.staged.getD s.timebase.length)

/-- The state in which the expiries of the tick begin. -/
def Sys2Proof.Claims.beforeExpiries (s : State) (pins : Half) : State :=
  (({ s with timebase := ticked s.timebase, inputs := pins }).awaitTest .tick).patternSteps
    (decide (s.timebase.length ≤ s.timebase.offset + 1))
    (decide (s.timebase.length ≤ s.timebase.offset + 1) && s.timebase.staged.isSome)

/-- What one expiry does: the line, the agenda, the fired history, EDGE_DONE, and the deferred AWAIT after a removal. -/
def Sys2Proof.Claims.expired (s : State) (e : AgendaEntry) : State :=
  let edgeDone (phase : Phase) : NoticeQueue :=
    if e.report then s.notices.raise s.timebase.time (.edgeDone e.tag e.line s.timebase.time phase) else s.notices
  let given (a : LevelAction) : Bank 16 Line := s.lines.set e.line ((s.line e.line).act a)
  let gone : List AgendaEntry := s.agenda.entries.filter fun x => x.tag != e.tag
  let recorded : List Half := e.tag :: (s.agenda.history.filter fun t => t != e.tag).take 15
  match e.action, e.phase with
  | .single a, _ =>
      { s with lines := given a, agenda := ⟨gone, recorded⟩, notices := edgeDone .lead }.awaitTest (.removal e.line)
  | .pulse level width, .lead =>
      { s with
        lines := given level.action
        agenda := { s.agenda with
          entries := insertByDistance s.timebase.time { e with due := s.timebase.time + width.setWidth 48, phase := .trail }
            gone }
        notices := edgeDone .lead }
  | .pulse level _, .trail =>
      { s with lines := given level.opposite.action, agenda := ⟨gone, recorded⟩, notices := edgeDone .trail }.awaitTest
        (.removal e.line)

/-- EXPIRE_SINGLE_ACTION, EXPIRE_PULSE_LEAD and EXPIRE_PULSE_TRAIL: at the tick that reaches an entry's due the entry
expires in its place among the entries due then, in agenda order. That these commands are that tick is log entry 1; that
the notices of the pattern steps stand before theirs is log entry 8, and the transmitter's choice at the end log entry
7. -/
def Obligations.ExpiriesInAgendaOrder : Prop :=
  (∀ s : State,
    s.expireDue = (s.agenda.entries.filter fun e => e.due == s.timebase.time).foldl expired s)
  ∧ ∀ (pins : Half) (s : State) (e : AgendaEntry), s.power.inReset = false → s.timebase.state = .running →
    (s.agenda.entries.map (·.tag)).Nodup → e ∈ s.agenda.entries → e.due = s.timebase.time + 1 →
    ∃ before rest : List AgendaEntry,
      (beforeExpiries s pins).agenda.entries.filter (fun x => x.due == (beforeExpiries s pins).timebase.time)
        = before ++ e :: rest
      ∧ (let t := rest.foldl expired (expired (before.foldl expired (beforeExpiries s pins)) e)
        match e.action, e.phase with
        | .single _, _ => exec (.expireSingleAction e.tag pins) s = .next t.qualify.transmit
        | .pulse .., .lead => exec (.expirePulseLead e.tag pins) s = .next t.qualify.transmit
        | .pulse .., .trail => exec (.expirePulseTrail e.tag pins) s = .next t.qualify.transmit)

/-- The fired history: at most 16 tags, none twice, the newest in front. -/
def Obligations.FiredHistoryKeepsSixteen : Prop :=
  ∀ (tag : Half) (history : List Half), history.length ≤ 16 → history.Nodup →
    (recordTag tag history).length ≤ 16 ∧ (recordTag tag history).Nodup ∧ (recordTag tag history).head? = some tag
      ∧ (tag ∈ history → (recordTag tag history).tail = history.filter fun t => t != tag)
      ∧ (tag ∉ history → (recordTag tag history).tail = history.take 15)

/-! ## Lines and patterns -/

/-- The actions on a drive line's level, outside hold and during it, and what its pin shows. -/
def Obligations.DriveLineLevels : Prop :=
  (∀ l : Level, LevelAction.set.apply l = .high ∧ LevelAction.clear.apply l = .low
      ∧ LevelAction.toggle.apply .low = .high ∧ LevelAction.toggle.apply .high = .low)
    ∧ (∀ w : Span, (Action.pulse .high w).leadAction = .set ∧ (Action.pulse .high w).trailAction = .clear
        ∧ (Action.pulse .low w).leadAction = .clear ∧ (Action.pulse .low w).trailAction = .set)
    ∧ (∀ (s : State) (i : LineId) (a : LevelAction) (idle : Level) (h : HoldAction),
        LinesOk s → (s.line i).mode = .drive idle h → s.power.inReset = false →
        (s.inHold = false → ∃ l : Level, (s.line i).level = some l ∧ s.pinShown i = some l
            ∧ s.actOn i a = s.setLine i { s.line i with level := some (a.apply l) })
        ∧ (s.inHold = true → ∃ saved frozen : Level, (s.line i).saved = some saved ∧ (s.line i).frozen = some frozen
            ∧ s.pinShown i = (match h with
              | .freeze => some frozen
              | .forceLow => some .low
              | .forceHigh => some .high)
            ∧ s.actOn i a = s.setLine i { s.line i with saved := some (a.apply saved) }))

/-- SET_LINE: a line's entries voided, its slots and qualifier emptied, its mode and levels set, and nothing else; the
settings it takes for each mode, and those it refuses. -/
def Obligations.SetLineChecksAndReconfigures : Prop :=
  (∀ (seq line mode polarity : Byte) (filter : Half) (idle holdAction : Byte) (i : LineId) (m : LineMode) (s : State),
     Takes s seq (.setLine line mode polarity filter idle holdAction) →
     readLine line = some i → readMode mode polarity filter idle holdAction = some m →
     (s.timebase.holdGuard = false ∨ s.timebase.reasons = ⟨false, false⟩) →
     let held := s.agenda.entries.filter fun e => e.line == i
     let cut := { s with agenda := { s.agenda with entries := s.agenda.entries.filter fun e => e.line != i } }
     let cut := if held = [] then cut else cut.awaitTest (.removal i)
     exec (.setLine seq line mode polarity filter idle holdAction) s
       = .next (answered
         { cut with
           qualifiers := s.qualifiers.set i { state := .waiting, last := none }
           lines := s.lines.set i
             { mode := m
               level := match m with
                 | .drive l _ => if s.inHold then none else some l
                 | _ => none
               saved := match m with
                 | .drive l _ => if s.inHold then some l else none
                 | _ => none
               frozen := match m with
                 | .drive l _ => if s.inHold then some l else none
                 | _ => none
               slotA := none, slotB := none, active := .noSlot, takeover := none } }
         seq (.setLine line mode polarity filter idle holdAction) (okay (.voided held.length))))
  ∧ ((∀ (mode polarity : Byte) (filter : Half) (idle holdAction : Byte),
       (readMode 0 polarity filter idle holdAction = some .off)
       ∧ (2 < mode.toNat → readMode mode polarity filter idle holdAction = none)
       ∧ ((readMode 1 polarity filter idle holdAction).isSome = true ↔ polarity.toNat ≤ 2 ∧ filter.toNat ≤ 1023)
       ∧ ((readMode 2 polarity filter idle holdAction).isSome = true ↔ idle.toNat ≤ 1 ∧ holdAction.toNat ≤ 2)
       ∧ (∀ m, readMode 1 polarity filter idle holdAction = some m →
          ∃ p : CapturePolarity, m = .capture p filter.toNat ∧ p.code = polarity)
       ∧ (∀ m, readMode 2 polarity filter idle holdAction = some m →
          ∃ (l : Level) (h : HoldAction), m = .drive l h ∧ l.code = idle ∧ h.code = holdAction))
     ∧ (∀ (seq line mode polarity : Byte) (filter : Half) (idle holdAction : Byte) (s : State),
         Takes s seq (.setLine line mode polarity filter idle holdAction) →
         (16 ≤ line.toNat ∨ readMode mode polarity filter idle holdAction = none) →
         exec (.setLine seq line mode polarity filter idle holdAction) s
           = .next (refusedWith .badField s seq (.setLine line mode polarity filter idle holdAction))))

/-- WRITE_SLOT on a line in DRIVE and CLEAR_PATTERN: the slot and the pending takeover; nothing else. The patterns
WRITE_SLOT takes, and the fields out of range that both refuse, guard or not. -/
def Obligations.SlotRequestsSetTheTakeover : Prop :=
  (∀ (boundary : Byte) (edges : List RawEdge),
    ((readPattern boundary edges).isSome = true ↔
      boundary ∈ [0#8, 1#8, 2#8, 5#8] ∧ edges.length ≤ 6 ∧ (∀ e ∈ edges, e.action.toNat ≤ 2)
        ∧ edges.Pairwise (fun a b => a.offset.toNat < b.offset.toNat))
    ∧ ∀ p, readPattern boundary edges = some p →
      p.boundary.code = boundary
        ∧ (p.edges.map fun e => (e.offset, e.action.code)) = edges.map fun e => (e.offset.toNat, e.action))
  ∧ (∀ (seq line slot boundary : Byte) (edges : List RawEdge) (s : State),
    let r := Request.writeSlot line slot boundary edges
    r.wellFormed = true → Takes s seq r →
    (16 ≤ line.toNat ∨ (slot ≠ 1 ∧ slot ≠ 2) ∨ readPattern boundary edges = none) →
    exec (.writeSlot seq line slot boundary edges) s = .next (refusedWith .badField s seq r))
  ∧ (∀ (seq line : Byte) (s : State), Takes s seq (.clearPattern line) → 16 ≤ line.toNat →
    exec (.clearPattern seq line) s = .next (refusedWith .badField s seq (.clearPattern line)))
  ∧ ∀ (seq line : Byte) (i : LineId) (s : State), readLine line = some i →
    (s.timebase.holdGuard = false ∨ s.timebase.reasons = ⟨false, false⟩) →
    (∀ (slot boundary : Byte) (edges : List RawEdge) (p : Pattern),
      let r := Request.writeSlot line slot boundary edges
      let check := match s.timebase.staged with
        | some n => n
        | none => s.timebase.length
      Takes s seq r → (slot = 1 ∨ slot = 2) → readPattern boundary edges = some p →
      let sel : SlotSel := if slot = 1 then .slotA else .slotB
      exec (.writeSlot seq line slot boundary edges) s
        = .next (
          if (s.line i).isDrive = false then refusedWith .lineMode s seq r
          else if (s.line i).active = sel then refusedWith .slotActive s seq r
          else match p.edges.findIdx? fun e => check ≤ e.offset with
            | some k => answered s seq r { code := .badField, data := .offsetError k check }
            | none =>
              answered { s with lines := s.lines.set i { s.line i with
                  slotA := if slot = 1 then some p else (s.line i).slotA
                  slotB := if slot = 2 then some p else (s.line i).slotB
                  takeover := some sel } }
                seq r (okay (.pattern (s.line i).active (some sel) p))))
    ∧ (Takes s seq (.clearPattern line) →
      exec (.clearPattern seq line) s
        = .next (
          if (s.line i).isDrive = false then refusedWith .lineMode s seq (.clearPattern line)
          else answered { s with lines := s.lines.set i { s.line i with takeover := some .noSlot } } seq
            (.clearPattern line) (okay (.slots (s.line i).active (some .noSlot)))))

/-- One line at a tick: takeover, clipping and boundary action at a boundary, then the edge at the tick's offset. -/
def Obligations.PatternStepsOfALine : Prop :=
  ∀ (s : State) (i : LineId) (lengthTaken : Bool), (s.line i).isDrive = true →
    let l := s.line i
    let taken : Line := match l.takeover with
      | some t => { l with active := t, takeover := none }
      | none => l
    let pattern : Line → Option Pattern := fun l => match l.active with
      | .noSlot => none
      | .slotA => l.slotA
      | .slotB => l.slotB
    let clipped := match pattern taken with
      | some p => (p.edges.filter fun e => s.timebase.length ≤ e.offset).length
      | none => 0
    let noted := match l.takeover with
      | some t => s.notices.raise s.timebase.time (.slotTaken i t s.timebase.cycle)
      | none => s.notices
    s.boundaryStep lengthTaken i
        = { s with
            lines := s.lines.set i (match pattern taken with
              | some { boundary := .act a, .. } => taken.act a
              | _ => taken)
            notices :=
              if (l.takeover.isSome ∨ lengthTaken = true) ∧ 1 ≤ clipped then
                noted.raise s.timebase.time (.patternClipped i taken.active clipped)
              else noted }
      ∧ s.patternEdge i
        = { s with lines := s.lines.set i (match pattern l with
            | some p => (match p.edges.find? fun e => e.offset == s.timebase.offset with
              | some e => l.act e.action
              | none => l)
            | none => l) }

/-! ## Captures -/

/-- One sample of a capture line's qualifier. -/
def Obligations.QualifierTakesASample : Prop :=
  ∀ (polarity : CapturePolarity) (filter : Nat) (now : Stamp) (last level : Level) (st : QualState),
    let out := Qualifier.sample { state := st, last := some last } polarity filter now level
    (Qualifier.sample { state := st, last := none } polarity filter now level = ({ state := st, last := some level }, none))
    ∧ out.1.last = some level
    ∧ (∀ edge : Edge, (edge = .rise ∧ last = .low ∧ level = .high) ∨ (edge = .fall ∧ last = .high ∧ level = .low) →
        let taken := polarity = .both ∨ (polarity = .rise ∧ edge = .rise) ∨ (polarity = .fall ∧ edge = .fall)
        (taken → filter = 0 → out.1.state = .waiting ∧ out.2 = some (edge, now))
        ∧ (taken → filter ≠ 0 → out.1.state = .qualifying edge now filter ∧ out.2 = none)
        ∧ (¬ taken → out.1.state = .waiting ∧ out.2 = none))
    ∧ (last = level →
        (st = .waiting → out.1.state = .waiting ∧ out.2 = none)
        ∧ (∀ p stamp r, st = .qualifying p stamp r → 2 ≤ r → out.1.state = .qualifying p stamp (r - 1) ∧ out.2 = none)
        ∧ (∀ p stamp, st = .qualifying p stamp 1 → out.1.state = .waiting ∧ out.2 = some (p, stamp)))

/-- CAPTURE_QUALIFIED: a line whose sample qualifies hands its capture over in its place among the captures of the tick,
in ascending line number: matched, then taken by the queue with its fired set. The samples of a tick, one per capture
line, the captures that qualify, TL0 first, and their handing over. That the command is that tick is log entry 1; that the
notices of a match stand before those of the queue, and both after those of the pattern steps and expiries, is log entry
8, and the transmitter's choice at the end log entry 7. -/
def Obligations.CapturesAreHandedOverInLineOrder : Prop :=
  (∀ s : State,
    (∃ qualifiers, s.sampleAll = { s with qualifiers := qualifiers }
      ∧ ∀ i, qualifiers.get i = (sampled s i s.timebase.time s.inputs).1)
    ∧ s.capturesNow = (allLines.filterMap fun i =>
        match (sampled s i s.timebase.time s.inputs).2 with
        | some (edge, stamp) => some { line := i, polarity := edge, stamp := stamp }
        | none => none)
    ∧ s.qualify
      = s.capturesNow.foldl (fun (t : State) c => (t.matchCapture c).1.takeCapture c (t.matchCapture c).2) s.sampleAll)
  ∧ ∀ (pins : Half) (s : State) (line : LineId) (polarity : CapturePolarity) (filter : Nat) (edge : Edge) (stamp : Stamp),
    s.power.inReset = false → s.timebase.state = .running → (s.line line).mode = .capture polarity filter →
    ((s.qualifiers.get line).sample polarity filter (s.timebase.time + 1)
      (if pins.getLsbD line.val then .high else .low)).2 = some (edge, stamp) →
    let start := untilExpiries s pins
    let give (t : State) (c : Capture) : State := (t.matchCapture c).1.takeCapture c (t.matchCapture c).2
    ∃ before rest : List Capture,
      start.capturesNow = before ++ { line := line, polarity := edge, stamp := stamp } :: rest
      ∧ (∀ c ∈ before, c.line.val < line.val) ∧ (∀ c ∈ rest, line.val < c.line.val)
      ∧ exec (.captureQualified line pins) s
          = .next (rest.foldl give (give (before.foldl give start.sampleAll)
              { line := line, polarity := edge, stamp := stamp })).transmit

/-- The Capture Queue takes a capture: appended with the next qseq, or counted in the pending loss. An append, of a capture
or a GAP, raises CAPTURE_READY, then QUEUE_WATERMARK, while their flags are ARMED, disarms them, and tests a deferred
AWAIT; nothing else. Positions count from the head, and the
unread entries from the read pointer's position. -/
def Obligations.QueueTakesCaptures : Prop :=
  (∀ q : CaptureQueue,
    q.head = (match q.entries with
      | .capture x .. :: _ => x
      | .gap x .. :: _ => x
      | [] => q.nextQseq)
    ∧ (∀ x : Half, q.position x = (x.toNat + 2 ^ 16 - q.head.toNat) % 2 ^ 16)
    ∧ q.unread = q.entries.length - q.position q.readPointer)
  ∧ (∀ (s : State) (c : Capture) (fired : List RuleId),
     (s.queue.entries.length < 256 →
       s.takeCapture c fired = s.appendEntry fun q => .capture q c.line c.polarity c.stamp fired)
     ∧ (s.queue.entries.length < 256 → ∃ t, s.takeCapture c fired = t
       ∧ t.queue.entries = s.queue.entries ++ [.capture s.queue.nextQseq c.line c.polarity c.stamp fired]
       ∧ t.queue.nextQseq = s.queue.nextQseq + 1 ∧ t.queue.readPointer = s.queue.readPointer
       ∧ t.queue.loss = s.queue.loss ∧ t.queue.watermark = s.queue.watermark
       ∧ t.queue.readyFlag = (s.queue.readyFlag && !decide (t.queue.unread = 1))
       ∧ t.queue.watermarkFlag
           = (s.queue.watermarkFlag && !decide (t.queue.unread = s.queue.watermark ∧ 1 ≤ s.queue.watermark)))
     ∧ (s.queue.entries.length = 256 → s.queue.loss = none →
       s.takeCapture c fired
         = { s with
             queue := { s.queue with loss := some { count := 1, first := c.stamp } }
             notices := s.notices.raise s.timebase.time (.queueLoss c.line c.stamp) })
     ∧ (∀ p : PendingLoss, s.queue.entries.length = 256 → s.queue.loss = some p →
       s.takeCapture c fired
         = { s with
             queue := { s.queue with
               loss := some { p with count := if p.count < 4294967295 then p.count + 1 else p.count } } }))
  ∧ (∀ (s : State) (entry : Half → QueueEntry),
     let q : CaptureQueue := { s.queue with
       entries := s.queue.entries ++ [entry s.queue.nextQseq], nextQseq := s.queue.nextQseq + 1 }
     let ready := q.unread = 1 ∧ q.readyFlag = true
     let mark := q.unread = q.watermark ∧ 1 ≤ q.watermark ∧ q.watermarkFlag = true
     let noted := if ready then s.notices.raise s.timebase.time (.captureReady 1 q.head) else s.notices
     s.appendEntry entry
       = { s with
           queue := { q with
             readyFlag := if ready then false else q.readyFlag
             watermarkFlag := if mark then false else q.watermarkFlag }
           notices := if mark then noted.raise s.timebase.time (.queueWatermark q.watermark) else noted }.awaitTest .append)

/-- READ_CAPTURES: its checks, the run it returns, the read pointer's new place and the flags it arms; nothing else. -/
def Obligations.ReadCapturesReturnsARun : Prop :=
  ∀ (seq source max : Byte) (x : Half) (s : State), Takes s seq (.readCaptures source x max) →
    let r := Request.readCaptures source x max
    let n := s.queue.entries.length
    let pointer := s.queue.position s.queue.readPointer
    let first := if source = 0 then pointer else s.queue.position x
    let run := (s.queue.entries.drop first).take max.toNat
    let pointer' := if run = [] then s.queue.readPointer else
      if pointer < first + run.length then s.queue.head + BitVec.ofNat 16 (first + run.length) else s.queue.readPointer
    let unread' := n - s.queue.position pointer'
    exec (.readCaptures seq source x max) s
      = .next (
        if (source ≠ 0 ∧ source ≠ 1) ∨ max.toNat < 1 ∨ 16 < max.toNat then refusedWith .badField s seq r
        else if source = 1 ∧ n ≤ s.queue.position x then refusedWith .notInQueue s seq r
        else
          answered { s with queue := { s.queue with
            readPointer := pointer'
            readyFlag := s.queue.readyFlag || unread' == 0
            watermarkFlag := s.queue.watermarkFlag || decide (unread' < s.queue.watermark) } }
            seq r (okay (.captures (decide (1 ≤ unread')) run)))

/-- RELEASE_CAPTURES: its checks, the entries removed through the one named, and a pending loss turned into a GAP. -/
def Obligations.ReleaseCapturesRemovesReadEntries : Prop :=
  ∀ (seq : Byte) (x : Half) (s : State), Takes s seq (.releaseCaptures x) →
    (s.timebase.holdGuard = false ∨ s.timebase.reasons = ⟨false, false⟩) →
    let r := Request.releaseCaptures x
    let p := s.queue.position x
    let cut := { s with queue := { s.queue with entries := s.queue.entries.drop (p + 1) } }
    exec (.releaseCaptures seq x) s
      = .next (
        if s.queue.entries.length ≤ p then refusedWith .notInQueue s seq r
        else if s.queue.position s.queue.readPointer ≤ p then refusedWith .notRead s seq r
        else
          let t := match s.queue.loss with
            | none => cut
            | some l => { cut with queue := { cut.queue with loss := none } }.appendEntry fun q => .gap q l.count l.first
          answered t seq r (okay (.released (p + 1)
            (s.queue.entries.length - (p + 1) + if s.queue.loss.isSome then 1 else 0))))

/-! ## Edge Agenda -/

/-- What an accepted order does at T = now (R84, R85). -/
def Sys2Proof.Claims.orderDone (s : State) (o : Order) : State :=
  let now := s.timebase.time
  let entry (due : Stamp) (phase : Phase) : AgendaEntry :=
    { tag := o.tag, line := o.line, due := due, action := o.action, phase := phase, origin := .host, report := o.report }
  let given (a : LevelAction) : Bank 16 Line := s.lines.set o.line ((s.line o.line).act a)
  let noted := if o.report then s.notices.raise now (.edgeDone o.tag o.line now .lead) else s.notices
  if classify o.due now = .future then
    { s with agenda := { s.agenda with entries := insertByDistance now (entry o.due .lead) s.agenda.entries } }
  else match o.action with
    | .single a =>
        { s with
          lines := given a
          agenda := { s.agenda with
            history := o.tag :: (s.agenda.history.filter fun t => t != o.tag).take 15 }
          notices := noted }
    | .pulse level width =>
        { s with
          lines := given level.action
          agenda := { s.agenda with
            entries := insertByDistance now (entry (now + width.setWidth 48) .trail) s.agenda.entries }
          notices := noted }

/-- An accepted SCHEDULE carries its orders out in batch order, and reports each as QUEUED or FIRED_LATE. An entry is
inserted after every entry whose due is nearer or equal and before every entry whose due is further. -/
def Obligations.ScheduleCarriesOutItsBatch : Prop :=
  (∀ (now : Stamp) (e : AgendaEntry) (held : List AgendaEntry),
    held.Pairwise (fun a b => distance a.due now ≤ distance b.due now) →
    insertByDistance now e held
      = (held.filter fun x => distance x.due now ≤ distance e.due now) ++ e
        :: held.filter fun x => distance e.due now < distance x.due now)
  ∧ ∀ (seq : Byte) (orders : List RawOrder) (batch : List Order) (s : State), Takes s seq (.schedule orders) →
    1 ≤ orders.length → orders.length ≤ 8 → orders.map readOrder = batch.map some →
    (s.timebase.holdGuard = false ∨ s.timebase.reasons = ⟨false, false⟩) → batchFault s batch = none →
    let t := batch.foldl orderDone s
    exec (.schedule seq orders) s
      = .next (answered t seq (.schedule orders) (okay (.scheduled (64 - t.agenda.entries.length)
          (batch.map fun o => if classify o.due s.timebase.time = .future then .queued else .firedLate))))

/-- The order at an index fails check 2 to 7 of SCHEDULE (R83). -/
def Sys2Proof.Claims.failsCheck (s : State) (batch : List Order) : Nat → Nat → Prop
  | 2, k => ∃ o, batch[k]? = some o ∧ 0xF000 ≤ o.tag.toNat
  | 3, k => ∃ o, batch[k]? = some o
      ∧ ((∃ e ∈ s.agenda.entries, e.tag = o.tag) ∨ ∃ p ∈ batch.take k, p.tag = o.tag)
  | 4, k => ∃ o, batch[k]? = some o ∧ (s.line o.line).isDrive = false
  | 5, k => ∃ o, batch[k]? = some o ∧ classify o.due s.timebase.time = .beyond
  | 6, k => ∃ o, batch[k]? = some o ∧ classify o.due s.timebase.time = .late ∧ o.fireNow = false
  | 7, k => k < batch.length ∧ 64 - s.agenda.entries.length
      < ((batch.take (k + 1)).filter fun o => o.action.isPulse || classify o.due s.timebase.time == .future).length
  | _, _ => False

/-- The result code of a check of SCHEDULE (R83). -/
def Sys2Proof.Claims.checkCode : Nat → ResultCode
  | 2 => .tagReserved
  | 3 => .tagInUse
  | 4 => .lineMode
  | 5 => .badField
  | 6 => .late
  | _ => .agendaFull

/-- SCHEDULE's range check refuses a list of the wrong length, and the first order with a field out of range, guard or
not. Its checks 2 to 7 all pass exactly when every order is one the agenda can take; the first check that some order fails
gives the result code, and the first order that fails it the index. -/
def Obligations.ScheduleChecks : Prop :=
  (∀ o : RawOrder,
    ((readOrder o).isSome = true ↔ o.line.toNat < 16 ∧ o.action.toNat ≤ 4 ∧ (3 ≤ o.action.toNat → o.width ≠ 0)
      ∧ o.late.toNat ≤ 1 ∧ o.report.toNat ≤ 1)
    ∧ ∀ x, readOrder o = some x →
      x.tag = o.tag ∧ x.line.val = o.line.toNat ∧ x.due = o.due ∧ x.action.code = o.action
        ∧ widthOf x.action = (if 3 ≤ o.action.toNat then o.width.toNat else 0)
        ∧ x.fireNow = decide (o.late = 0) ∧ x.report = decide (o.report = 1))
  ∧ (∀ (seq : Byte) (orders : List RawOrder) (s : State),
    let r := Request.schedule orders
    let refusal (k : Nat) : Reply := { code := .badField, data := .scheduleError k (64 - s.agenda.entries.length) }
    r.wellFormed = true → Takes s seq r →
    ((orders = [] ∨ 8 < orders.length) → exec (.schedule seq orders) s = .next (answered s seq r (refusal 0)))
    ∧ (∀ (good rest : List RawOrder) (bad : RawOrder), orders = good ++ bad :: rest → orders.length ≤ 8 →
      (∀ o ∈ good, (readOrder o).isSome = true) → readOrder bad = none →
      exec (.schedule seq orders) s = .next (answered s seq r (refusal good.length))))
  ∧ ∀ (s : State) (batch : List Order),
    (∀ check k : Nat, failsCheck s batch check k → (∀ j < k, ¬ failsCheck s batch check j) →
      (∀ earlier < check, ∀ j, ¬ failsCheck s batch earlier j) → batchFault s batch = some (checkCode check, k))
    ∧ (batchFault s batch = none ↔
      (∀ o ∈ batch, o.tag.toNat < 0xF000)
      ∧ (batch.map (·.tag)).Nodup ∧ (∀ o ∈ batch, ∀ e ∈ s.agenda.entries, o.tag ≠ e.tag)
      ∧ (∀ o ∈ batch, (s.line o.line).isDrive = true)
      ∧ (∀ o ∈ batch, classify o.due s.timebase.time ≠ .beyond)
      ∧ (∀ o ∈ batch, classify o.due s.timebase.time = .late → o.fireNow = true)
      ∧ (batch.filter fun o => o.action.isPulse || classify o.due s.timebase.time == .future).length
          ≤ 64 - s.agenda.entries.length)
    ∧ (∀ (seq : Byte) (orders : List RawOrder) (code : ResultCode) (k : Nat), Takes s seq (.schedule orders) →
        1 ≤ orders.length → orders.length ≤ 8 → orders.map readOrder = batch.map some →
        (s.timebase.holdGuard = false ∨ s.timebase.reasons = ⟨false, false⟩) → batchFault s batch = some (code, k) →
        exec (.schedule seq orders) s
          = .next (answered s seq (.schedule orders)
              { code := code, data := .scheduleError k (64 - s.agenda.entries.length) }))

/-- CANCEL looks for its tag in the agenda, then in the fired history. CANCEL_LINE removes the line's entries, without
trail, record or notice; nothing else. A line above 15 is refused, guard or not. -/
def Obligations.CancelRequestsRemoveEntries : Prop :=
  (∀ (seq complete : Byte) (tag : Half) (s : State), Takes s seq (.cancel tag complete) →
     (s.timebase.holdGuard = false ∨ s.timebase.reasons = ⟨false, false⟩) →
     let r := Request.cancel tag complete
     exec (.cancel seq tag complete) s
       = .next (
         if complete ≠ 0 ∧ complete ≠ 1 then refusedWith .badField s seq r
         else if 0xF008 ≤ tag.toNat then refusedWith .tagReserved s seq r
         else match s.agenda.entries.find? fun e => e.tag == tag with
           | some e =>
             let cut := { s with agenda := { s.agenda with entries := s.agenda.entries.filter fun x => x.tag != e.tag } }
             let t := if complete = 1 ∧ e.phase = .trail then
                 { cut with lines := s.lines.set e.line ((s.line e.line).act e.action.trailAction) }
               else cut
             answered (t.awaitTest (.removal e.line)) seq r { code := .cancelled, data := .cancelled e.phase }
           | none => refusedWith (if tag ∈ s.agenda.history then .alreadyFired else .notFound) s seq r))
  ∧ (∀ (seq line : Byte) (i : LineId) (s : State), Takes s seq (.cancelLine line) → readLine line = some i →
     (s.timebase.holdGuard = false ∨ s.timebase.reasons = ⟨false, false⟩) →
     let held := s.agenda.entries.filter fun e => e.line == i
     let cut := { s with agenda := { s.agenda with entries := s.agenda.entries.filter fun e => e.line != i } }
     exec (.cancelLine seq line) s
       = .next (answered (if held = [] then cut else cut.awaitTest (.removal i)) seq (.cancelLine line)
           (okay (.removed held.length))))
  ∧ (∀ (seq line : Byte) (s : State), Takes s seq (.cancelLine line) → 16 ≤ line.toNat →
     exec (.cancelLine seq line) s = .next (refusedWith .badField s seq (.cancelLine line)))

/-! ## Follow Table -/

/-- SET_FOLLOW: the settings it takes; every setting replaced, DISARMED, shots refilled, counts 0; nothing else. -/
def Obligations.SetFollowWritesTheRule : Prop :=
  (∀ raw : RawFollow,
    ((readFollow raw).isSome = true ↔ raw.source.toNat < 16 ∧ raw.target.toNat < 16 ∧ raw.target ≠ raw.source
      ∧ raw.polarity.toNat ≤ 2 ∧ raw.action.toNat ≤ 4 ∧ (3 ≤ raw.action.toNat → raw.width ≠ 0) ∧ raw.delay ≠ 0
      ∧ raw.retrigger.toNat ≤ 1 ∧ raw.late.toNat ≤ 1 ∧ raw.report.toNat ≤ 1)
    ∧ ∀ f, readFollow raw = some f →
      f.source.val = raw.source.toNat ∧ f.polarity.code = raw.polarity ∧ f.target.val = raw.target.toNat
        ∧ f.action.code = raw.action ∧ widthOf f.action = (if 3 ≤ raw.action.toNat then raw.width.toNat else 0)
        ∧ f.delay = raw.delay ∧ f.shots = raw.shots.toNat ∧ f.retrigger.code = raw.retrigger ∧ f.late.code = raw.late
        ∧ f.report = decide (raw.report = 1))
  ∧ ∀ (seq id : Byte) (raw : RawFollow) (s : State), Takes s seq (.setFollow id raw) →
    (s.timebase.holdGuard = false ∨ s.timebase.reasons = ⟨false, false⟩) →
    let r := Request.setFollow id raw
    exec (.setFollow seq id raw) s
      = .next (match readRuleId id, readFollow raw with
        | some k, some f =>
          if (s.rule k).any (fun r => r.status == .armed) then refusedWith .wrongState s seq r
          else
            let written : FollowRule :=
              { status := .disarmed, settings := f, shotsRemaining := f.shots, fires := 0, misses := 0 }
            let t := { s with rules := s.rules.set k (some written) }
            answered t seq r (okay (.rule (reported t k)))
        | _, _ => refusedWith .badField s seq r)

/-- ARM_FOLLOW and DISARM_FOLLOW: the rule's state and its shots. CLEAR_FOLLOW: the rule's entry removed without its
trail, and the rule EMPTY. Nothing else. An id above 7 is refused, guard or not. -/
def Obligations.ArmDisarmAndClearFollow : Prop :=
  (∀ (seq id : Byte) (s : State), 8 ≤ id.toNat →
     (Takes s seq (.armFollow id) → exec (.armFollow seq id) s = .next (refusedWith .badField s seq (.armFollow id)))
     ∧ (Takes s seq (.disarmFollow id) →
       exec (.disarmFollow seq id) s = .next (refusedWith .badField s seq (.disarmFollow id)))
     ∧ (Takes s seq (.clearFollow id) →
       exec (.clearFollow seq id) s = .next (refusedWith .badField s seq (.clearFollow id))))
  ∧ (∀ (seq id : Byte) (k : RuleId) (s : State), readRuleId id = some k →
     (s.timebase.holdGuard = false ∨ s.timebase.reasons = ⟨false, false⟩) →
     (Takes s seq (.armFollow id) → exec (.armFollow seq id) s
       = .next (match s.rule k with
         | none => refusedWith .wrongState s seq (.armFollow id)
         | some r =>
           let shots := if r.status = .armed then r.shotsRemaining else r.settings.shots
           answered { s with rules := s.rules.set k (some { r with status := .armed, shotsRemaining := shots }) } seq
             (.armFollow id) (okay (.armed .armed shots))))
     ∧ (Takes s seq (.disarmFollow id) → exec (.disarmFollow seq id) s
       = .next (match s.rule k with
         | none => refusedWith .wrongState s seq (.disarmFollow id)
         | some r =>
           let status : RuleStatus := if r.status = .spent then .spent else .disarmed
           answered { s with rules := s.rules.set k (some { r with status := status }) } seq (.disarmFollow id)
             (okay (.ruleState (if r.status = .spent then .spent else .disarmed))))))
  ∧ (∀ (seq id : Byte) (k : RuleId) (s : State), readRuleId id = some k → Takes s seq (.clearFollow id) →
     (s.timebase.holdGuard = false ∨ s.timebase.reasons = ⟨false, false⟩) →
     let tag : Half := 0xF000 + BitVec.ofNat 16 k.val
     let emptied := { s with rules := s.rules.set k none }
     exec (.clearFollow seq id) s
       = .next (match s.agenda.entries.find? fun e => e.tag == tag with
         | none => answered emptied seq (.clearFollow id) (okay (.cleared none))
         | some e =>
           answered
             ({ emptied with agenda := { s.agenda with
                 entries := s.agenda.entries.filter fun x => x.tag != tag } }.awaitTest (.removal e.line))
             seq (.clearFollow id) (okay (.cleared (some e.phase)))))

/-- The outcomes of a match, gathered (R132 to R137): the reason of a miss, or none for a fire. -/
def Sys2Proof.Claims.missReason (s : State) (k : RuleId) (r : FollowRule) (c : Capture) : Option MissReason :=
  let late := classify (c.stamp + r.settings.delay.setWidth 48) s.timebase.time ≠ .future
  let held := s.agenda.entries.find? fun e => e.tag == followTag k
  if (s.line r.settings.target).isDrive = false then some .targetMode
  else if late ∧ r.settings.late = .miss then some .late
  else if held.isSome ∧ r.settings.retrigger = .ignore then some .busy
  else if held = none ∧ (¬ late ∨ r.settings.action.isPulse = true) ∧ 64 ≤ s.agenda.entries.length then some .agendaFull
  else none

/-- A state of a fire with the fire counted in its rule (R136): the fire and the shot, SPENT and FOLLOW_SPENT with the last
one. -/
def Sys2Proof.Claims.fireCounted (s : State) (k : RuleId) (r : FollowRule) : State :=
  { s with
    rules := s.rules.set k (some
      { r with
        fires := if r.fires < 4294967295 then r.fires + 1 else r.fires
        shotsRemaining := if r.settings.shots = 0 then r.shotsRemaining else r.shotsRemaining - 1
        status := if r.settings.shots ≠ 0 ∧ r.shotsRemaining - 1 = 0 then .spent else .armed })
    notices := if r.settings.shots ≠ 0 ∧ r.shotsRemaining - 1 = 0 then
        s.notices.raise s.timebase.time (.followSpent k)
      else s.notices }

/-- The test of a deferred AGENDA_EMPTY that ends a match which removed the rule's old entry (R186). -/
def Sys2Proof.Claims.testedAfter (removed : Option AgendaEntry) (t : State) : State :=
  match removed with
  | some e => t.awaitTest (.removal e.line)
  | none => t

/-- A capture is tried against the rules in ascending id; one matches that is ARMED, with its source line and a polarity
that takes its edge; the rules that fired are the fired set. A match misses for the first reason that applies and counts
it, or fires, counts the fire and the shot, and is SPENT by the last one. A miss changes its rule and the notices; a fire
its rule, the notices, the lines and the agenda's entries, and after a removal a deferred AWAIT is tested; nothing else. -/
def Obligations.MatchMissesOrFires : Prop :=
  (∀ (s : State) (c : Capture),
    s.matchCapture c
      = allRules.foldl (fun (acc : State × List RuleId) k =>
          match acc.1.rule k with
          | some r =>
            if r.status = .armed ∧ r.settings.source = c.line
                ∧ (r.settings.polarity = .either ∨ (r.settings.polarity = .rise ∧ c.polarity = .rise)
                  ∨ (r.settings.polarity = .fall ∧ c.polarity = .fall)) then
              ((acc.1.matchRule k r c).1, if (acc.1.matchRule k r c).2 then acc.2 ++ [k] else acc.2)
            else acc
          | none => acc) (s, []))
  ∧ ∀ (s : State) (k : RuleId) (r : FollowRule) (c : Capture), AgendaOk s → s.rule k = some r → r.status = .armed →
    (∀ reason, missReason s k r c = some reason →
      s.matchRule k r c
        = ({ s with
            rules := s.rules.set k (some { r with misses := if r.misses < 4294967295 then r.misses + 1 else r.misses })
            notices := if r.settings.report then s.notices.raise s.timebase.time (.followMiss k reason c.stamp)
              else s.notices }, false))
    ∧ (missReason s k r c = none → ∃ (lines : Bank 16 Line) (entries : List AgendaEntry),
      s.matchRule k r c
        = (testedAfter (s.agenda.entries.find? fun e => e.tag == followTag k)
            (fireCounted { s with lines := lines, agenda := { s.agenda with entries := entries } } k r), true))

/-- Where a fire puts its edge: the rule's old entry is gone, with its trail given if it was in TRAIL; a future due is an
entry in LEAD, a late pulse its lead now and an entry in TRAIL, a late single action its action now. Then the fire is
counted, and a deferred AWAIT is tested if the old entry was removed, after the insertion; nothing else. -/
def Obligations.FirePlacesItsEdge : Prop :=
  ∀ (s : State) (k : RuleId) (r : FollowRule) (c : Capture), AgendaOk s → s.rule k = some r → r.status = .armed →
    missReason s k r c = none →
    let due := c.stamp + r.settings.delay.setWidth 48
    let now := s.timebase.time
    let held := s.agenda.entries.find? fun e => e.tag == followTag k
    let ended : State := match held with
      | some e => if e.phase = .trail then s.actOn e.line e.action.trailAction else s
      | none => s
    let others := s.agenda.entries.filter fun e => e.tag != followTag k
    let entry (due : Stamp) (phase : Phase) : AgendaEntry :=
      { tag := followTag k, line := r.settings.target, due := due, action := r.settings.action, phase := phase
        origin := .follow k, report := r.settings.report }
    let placed : State :=
      if classify due now = .future then
        { s with lines := ended.lines, agenda := { s.agenda with entries := insertByDistance now (entry due .lead) others } }
      else match r.settings.action with
        | .single a =>
          { s with lines := (ended.actOn r.settings.target a).lines, agenda := { s.agenda with entries := others } }
        | .pulse level width =>
          { s with
            lines := (ended.actOn r.settings.target level.action).lines
            agenda := { s.agenda with
              entries := insertByDistance now (entry (now + width.setWidth 48) .trail) others } }
    s.matchRule k r c = (testedAfter held (fireCounted placed k r), true)

/-! ## Notices -/

/-- Raising a notice: masked, appended, or lost and counted in the first case that applies. -/
def Obligations.RaisingANotice : Prop :=
  ∀ (q : NoticeQueue) (now : Stamp) (body : NoticeBody),
    let enabled : Bool := match body with
      | .captureReady .. => q.mask.getLsbD 0
      | .queueWatermark .. => q.mask.getLsbD 1
      | .queueLoss .. => q.mask.getLsbD 2
      | .edgeDone .. => q.mask.getLsbD 3
      | .slotTaken .. => q.mask.getLsbD 4
      | .patternClipped .. => q.mask.getLsbD 5
      | .followMiss .. => q.mask.getLsbD 6
      | .followSpent .. => q.mask.getLsbD 7
      | _ => true
    let fresh (body : NoticeBody) : Notice :=
      { content := { nseq := q.nextNseq, stamp := now, body := body }, sent := false, mark := false }
    (enabled = false → q.raise now body = q)
    ∧ (enabled = true → q.records.length < 31 →
        q.raise now body = { q with records := q.records ++ [fresh body], nextNseq := q.nextNseq + 1 })
    ∧ (enabled = true → 31 ≤ q.records.length →
        (∀ (older : List Notice) (n : Notice) (count : Nat), q.records = older ++ [n] → n.sent = false →
            n.content.body = .noticeLost count →
            q.raise now body = { q with records := older ++ [{ n with content := { n.content with
              body := .noticeLost (if count < 4294967295 then count + 1 else count) } }] })
        ∧ ((∀ n ∈ q.records.getLast?, n.sent = true ∨ isLost n = false) → q.records.length = 31 →
            q.raise now body = { q with records := q.records ++ [fresh (.noticeLost 1)], nextNseq := q.nextNseq + 1 })
        ∧ ((∀ n ∈ q.records.getLast?, n.sent = true ∨ isLost n = false) → q.records.length = 32 →
            q.raise now body = { q with
              pendingLost := if q.pendingLost < 4294967295 then q.pendingLost + 1 else q.pendingLost }))

/-- ACK_NOTICES: refused with NOT_FOUND or NOT_SENT, or the records through the one named removed, a pending-lost count
turned into a NOTICE_LOST, and the timer restarted or stopped. -/
def Obligations.AckNoticesRemovesSentRecords : Prop :=
  ∀ (seq : Byte) (n : Half) (s : State), Takes s seq (.ackNotices n) →
    let q := s.notices
    let p := (n - match q.records with
      | first :: _ => first.content.nseq
      | [] => q.nextNseq).toNat
    let report (q : NoticeQueue) (removed : Nat) : ReplyData :=
      .acknowledged removed q.records.length q.head ((q.records.filter (·.sent)).getLast?.map (·.content.nseq))
    exec (.ackNotices seq n) s
      = .next (match q.records[p]? with
        | none => answered s seq (.ackNotices n) { code := .notFound, data := report q 0 }
        | some named =>
          if named.sent = false then answered s seq (.ackNotices n) { code := .notSent, data := report q 0 }
          else
            let lost := if q.pendingLost = 0 then [] else
              [{ content := { nseq := q.nextNseq, stamp := s.timebase.time, body := .noticeLost q.pendingLost }
                 sent := false, mark := false }]
            let kept := q.records.drop (p + 1) ++ lost
            let q' := { q with
              records := kept
              nextNseq := if q.pendingLost = 0 then q.nextNseq else q.nextNseq + 1
              pendingLost := 0
              timer := if kept = [] ∨ q.interval = 0 then none else some 0 }
            answered { s with notices := q' } seq (.ackNotices n) (okay (report q' (p + 1))))

/-- SET_QUEUE: the watermark and its flag. SET_NOTICES: the mask, the interval, and what the interval does to the timer
and the marks. Nothing else. -/
def Obligations.SettingRequestsSetOnlyTheirFields : Prop :=
  (∀ (seq : Byte) (w : Half) (s : State), Takes s seq (.setQueue w) →
     exec (.setQueue seq w) s
       = .next (
         if 256 < w.toNat then refusedWith .badField s seq (.setQueue w)
         else answered { s with queue := { s.queue with
             watermark := w.toNat, watermarkFlag := decide (w.toNat = 0 ∨ s.queue.unread < w.toNat) } }
           seq (.setQueue w) (okay (.watermark w.toNat s.queue.unread))))
  ∧ (∀ (seq mask interval : Byte) (s : State), Takes s seq (.setNotices mask interval) →
     exec (.setNotices seq mask interval) s
       = .next (answered { s with notices := { s.notices with
           mask := mask, interval := interval
           records := if interval = 0 then s.notices.records.map fun n => { n with mark := false } else s.notices.records
           timer := if interval ≠ 0 ∧ (∃ n ∈ s.notices.records, n.sent = true) then some 0 else none } }
         seq (.setNotices mask interval)
         (okay (.notices mask interval s.notices.records.length s.notices.pendingLost))))

/-- NOTICE_FRAME_COMPLETE: the record becomes SENT, and a stopped timer starts unless repeats are off; a NOTICE_LOST
whose count rose meanwhile stays UNSENT. REPEAT_FRAME_COMPLETE changes no record. -/
def Obligations.NoticeFramesComplete : Prop :=
  ∀ (s : State) (c : NoticeContent), s.power.inReset = false →
    let idle (t : State) : State := { t with link := { t.link with tx := .idle } }
    (∀ (older newer : List Notice) (n : Notice), s.link.tx = .sending (.firstSending c) →
      s.notices.records = older ++ n :: newer → (∀ m ∈ older ++ newer, m.content ≠ c) →
      exec .noticeFrameComplete s
        = .next (idle { s with notices := { s.notices with
            records := older ++ (if n.content = c then { n with sent := true } else n) :: newer
            timer := if n.content = c ∧ s.notices.timer = none ∧ s.notices.interval ≠ 0 then some 0
              else s.notices.timer } }).transmit)
    ∧ (s.link.tx = .sending (.repeatSending c) → exec .repeatFrameComplete s = .next (idle s).transmit)

/-- AWAIT_TIMEOUT: the TIMEOUT reply, with T and the value at the expiry, goes to the deferred-reply slot.
REPEAT_TIMER_EXPIRY: every SENT record is marked and the timer restarts, or it stops when none is SENT. -/
def Obligations.ServiceTimerExpiries : Prop :=
  (∀ (s : State) (d : Deferred) (n : Nat), s.power.inReset = false → s.link.deferred = some d → d.timer = some n →
     exec .awaitTimeout s
       = .next { s with link := { s.link with
           deferred := some { d with timer := none }
           deferredSlot := some
             { seq := d.seq, kind := 0x03
               reply := { code := .timeout, data := .await s.timebase.time (d.condition.value s) } } } }.transmit)
  ∧ (∀ (s : State) (n : Nat), s.power.inReset = false → s.notices.timer = some n →
     exec .repeatTimerExpiry s
       = .next { s with notices := { s.notices with
           records := s.notices.records.map fun (m : Notice) => if m.sent then { m with mark := true } else m
           timer := if ∃ n ∈ s.notices.records, n.sent = true then some 0 else none } }.transmit)

/-! ## Control Link -/

/-- UNKNOWN_KIND taken at its arrival: the code alone, cached like any other reply. DUPLICATE_FRAME and OVERRUN: one
counter, and the cached reply where the record is COMPLETED; when they can occur is the model's (log entry 14). -/
def Obligations.OtherArrivals : Prop :=
  (∀ (seq : Byte) (kind : BitVec 6) (payload : List Byte) (s : State),
     (¬ ∃ n, lengthAllowed kind n) → payload.length ≤ 240 → s.power.inReset = false → s.link.waiting = none →
     s.link.replySlot = none → s.link.repeatOf seq (requestFrame seq kind payload).check = none →
     let f : ReplyFrame := { seq := seq, kind := kind, reply := { code := .unknownKind, data := .codeOnly } }
     exec (.unknownKind seq kind payload) s
       = .next { s with link := { s.link with
           replySlot := some f
           lastTaken := some
             { seq := seq, check := (requestFrame seq kind payload).check, state := .completed f.reply }
           tx := if s.link.tx = .idle then .sending (.reply f) else s.link.tx } })
  ∧ (∀ s : State, s.power.inReset = false →
     (∀ (kind : BitVec 6) (r : LastTaken), s.link.lastTaken = some r → s.link.replySlot = none → s.link.waiting = none →
       exec (.duplicateFrame kind) s
         = .next (
           let counted := { s.link with counters := { s.link.counters with
             duplicate := if s.link.counters.duplicate < 65535 then s.link.counters.duplicate + 1
               else s.link.counters.duplicate } }
           match r.state with
           | .deferred => { s with link := counted }.transmit
           | .completed cached =>
             { s with link := { counted with
               replySlot := some { seq := r.seq, kind := kind, reply := cached } } }.transmit))
     ∧ (s.link.waiting.isSome = true →
       exec .overrun s
         = .next { s with link := { s.link with counters := { s.link.counters with
             overrun := if s.link.counters.overrun < 65535 then s.link.counters.overrun + 1
               else s.link.counters.overrun } } }.transmit))

/-- FRAME_DISCARD and BYTE_GAP_EXPIRY: the receiver returns to HUNT and one counter rises. Where FRAME_DISCARD's cause is
detected, some character has that same effect. In which states a cause can be commanded is the model's (log entry 14). -/
def Obligations.DiscardsAreCounted : Prop :=
  (∀ s : State, s.power.inReset = false →
     let up (n : Nat) : Nat := if n < 65535 then n + 1 else n
     let counted (c : LinkCounters) : Result := .next { s with link := { s.link with rx := .hunt, counters := c } }.transmit
     (s.link.rx ≠ .hunt →
       exec (.frameDiscard .badStop) s
           = counted { s.link.counters with framing := up s.link.counters.framing }
         ∧ exec .byteGapExpiry s = counted { s.link.counters with framing := up s.link.counters.framing })
     ∧ (s.link.rx = .len →
       exec (.frameDiscard .lengthAbove240) s
         = counted { s.link.counters with length := up s.link.counters.length })
     ∧ (∀ (seq kind low : Byte) (payload : List Byte), s.link.rx = .check seq kind payload (some low) →
       exec (.frameDiscard .crcDiffers) s = counted { s.link.counters with crc := up s.link.counters.crc }
         ∧ (kind.extractLsb' 6 2 ≠ 0 → low = (frameCheck seq kind payload).setWidth 8 →
           exec (.frameDiscard .notARequest) s = counted { s.link.counters with cls := up s.link.counters.cls })))
  ∧ (∀ (cause : DiscardCause) (s : State), s.link.rx.detects cause = true →
     ∃ (value : Byte) (good : Bool),
       exec (.frameDiscard cause) s = exec (.characterReceived value good s.inputs) s)

/-- CHARACTER_RECEIVED in each receiver state. The levels its command presents are kept in `inputs`, the model's own field
(log entry 4). -/
def Obligations.CharactersAdvanceTheReceiver : Prop :=
  ∀ (v : Byte) (good : Bool) (pins : Half) (s : State), s.power.inReset = false →
    let now := { s with inputs := pins }
    let go (r : Receiver) : State := { now with link := { s.link with rx := r } }
    let up (n : Nat) : Nat := if n < 65535 then n + 1 else n
    let c := s.link.counters
    let drop (c : LinkCounters) : State := { now with link := { s.link with rx := .hunt, counters := c } }
    exec (.characterReceived v good pins) s
      = .next (
        if good = false then
          (if s.link.rx = .hunt then now else drop { c with framing := up c.framing }).transmit
        else match s.link.rx with
          | .hunt => (if v = 0xC3 then go .len else now).transmit
          | .len =>
            (if v.toNat ≤ 240 then go (.header v none) else drop { c with length := up c.length }).transmit
          | .header len none => (go (.header len (some v))).transmit
          | .header len (some seq) =>
            (go (if len = 0 then .check seq v [] none else .body len seq v [])).transmit
          | .body len seq kind payload =>
            (go (if len.toNat ≤ payload.length + 1 then .check seq kind (payload ++ [v]) none
              else .body len seq kind (payload ++ [v]))).transmit
          | .check seq kind payload none => (go (.check seq kind payload (some v))).transmit
          | .check seq kind payload (some low) =>
            (if frameCheck seq kind payload ≠ v ++ low then drop { c with crc := up c.crc }
            else if kind.extractLsb' 6 2 ≠ 0 then drop { c with cls := up c.cls }
            else
              let f : RequestFrame := { seq := seq, kind := kind.extractLsb' 0 6, payload := payload, check := v ++ low }
              (go .hunt).arrive f (answerFrame f)).transmit)

/-- REPLY_COMPLETE with no RESTART pending: the slot empties and the transmitter chooses; then the waiting frame is
taken, with the levels found then, and run as its command would be. DEFERRED_REPLY_COMPLETE: the deferred request ends,
and its DEFERRED record keeps the reply. -/
def Obligations.RepliesComplete : Prop :=
  (∀ (seq : Byte) (pins : Half) (r : Request) (s : State), r.wellFormed = true → Takes s seq r →
    exec (command seq pins r) s
      = .next (({ s with inputs := if r = Request.readLines then pins else s.inputs }.take (frameOf seq r)
          (answerFrame (frameOf seq r))).transmit))
  ∧ (∀ (f : RequestFrame) (s : State),
    (parseRequest f.kind f.payload = .unknownKind →
      answerFrame f s = (s, some { code := .unknownKind, data := .codeOnly }))
    ∧ (parseRequest f.kind f.payload = .badLength →
      answerFrame f s = (s, some { code := .badLength, data := .codeOnly })))
  ∧ ∀ (pins : Half) (s : State) (f : ReplyFrame), s.power.inReset = false →
    (s.link.tx = .sending (.reply f) → s.link.restartPending = false →
      let sent := { s with inputs := pins, link := { s.link with replySlot := none, tx := .idle } }.transmit
      exec (.replyComplete pins) s
        = .next (match s.link.waiting with
          | none => sent
          | some w => ({ sent with link := { sent.link with waiting := none } }.take w (answerFrame w)).transmit))
    ∧ (∀ d : Deferred, s.link.tx = .sending (.deferredReply f) → s.link.deferred = some d →
      exec .deferredReplyComplete s
        = .next { s with link := { s.link with
            tx := .idle, deferredSlot := none, deferred := none
            lastTaken := match s.link.lastTaken with
              | some r => some (if r.seq = d.seq ∧ r.check = d.check ∧ r.state = RecordState.deferred then
                  { r with state := .completed f.reply } else r)
              | none => none } }.transmit)

/-- The transmitter's choice: the reply, the deferred reply, the oldest UNSENT record, the oldest marked record, whose
mark goes; a frame in transmission is not interrupted. -/
def Obligations.TransmitterChoosesInOrder : Prop :=
  ∀ s : State,
    let begin (f : TxFrame) : State := { s with link := { s.link with tx := .sending f } }
    (s.link.tx ≠ .idle → s.transmit = s)
    ∧ (s.link.tx = .idle →
      (∀ f, s.link.replySlot = some f → s.transmit = begin (.reply f))
      ∧ (∀ f, s.link.replySlot = none → s.link.deferredSlot = some f → s.transmit = begin (.deferredReply f))
      ∧ (s.link.replySlot = none → s.link.deferredSlot = none →
        (∀ (sent rest : List Notice) (n : Notice), s.notices.records = sent ++ n :: rest →
          (∀ m ∈ sent, m.sent = true) → n.sent = false → s.transmit = begin (.firstSending n.content))
        ∧ ((∀ m ∈ s.notices.records, m.sent = true) →
          (∀ (plain rest : List Notice) (n : Notice), s.notices.records = plain ++ n :: rest →
            (∀ m ∈ plain, m.mark = false) → n.mark = true →
            s.transmit = { begin (.repeatSending n.content) with notices := { s.notices with
              records := plain ++ { n with mark := false } :: rest } })
          ∧ ((∀ m ∈ s.notices.records, m.mark = false) → s.transmit = s))))

/-- Outside RUNNING the six tick commands change nothing (log entry 6). While a hardware reset lasts, a command other
than those of power and reset changes nothing (log entry 11). -/
def Obligations.EventsThatCannotOccur : Prop :=
  (∀ (pins tag : Half) (line : LineId) (s : State), s.timebase.state ≠ .running →
     exec (.tick pins) s = .next s ∧ exec (.cycleBoundary pins) s = .next s
       ∧ exec (.expireSingleAction tag pins) s = .next s ∧ exec (.expirePulseLead tag pins) s = .next s
       ∧ exec (.expirePulseTrail tag pins) s = .next s ∧ exec (.captureQualified line pins) s = .next s)
  ∧ (∀ (c : Instr) (s : State), s.power.inReset = true → c.wellFormed = true →
     exec c s = .next s ∨ c = .powerUp ∨ c = .resetAsserted ∨ c = .vddBelowThreshold
       ∨ ∃ rate1 rate0 holdAsserted, c = .resetEnd rate1 rate0 holdAsserted)

/-! ## The clock, on an empty queue (log entry 2) -/

/-- `k` steps. -/
def Sys2Proof.Claims.steps : Nat → State → Result
  | 0, s => .next s
  | k + 1, s => match step s with
    | .next t => Sys2Proof.Claims.steps k t
    | .fault r => .fault r
    | .refused r => .refused r

/-- On an empty queue, with a frame in transmission: RUNNING counts 2^p periods and then ticks; in STOPPED the await timer
and the repeat timer expire after the timeout times 25,000 and after the interval times 250,000 periods. -/
def Obligations.ClockCountsPeriods : Prop :=
  (∀ s : State, s.power.inReset = false → s.pending = [] → s.link.tx ≠ .idle → s.timebase.state = .running →
     s.timebase.count = 0 → s.notices.timer = none → s.link.awaiting = none →
     (∀ k ≤ 2 ^ s.timebase.prescale, Claims.steps k s
       = .next { s with timebase := { s.timebase with count := k } })
     ∧ Claims.steps (2 ^ s.timebase.prescale + 1) s
       = .next ({ s with timebase := { s.timebase with count := 2 ^ s.timebase.prescale } }.runTick s.inputs))
  ∧ (∀ s : State, s.power.inReset = false → s.pending = [] → s.link.tx ≠ .idle → s.timebase.state = .stopped →
     (∀ d : Deferred, s.notices.timer = none → s.link.deferred = some d → d.timer = some 0 →
       Claims.steps (d.timeoutMs * 25000 + 1) s
         = .next ({ s with link := { s.link with
             deferred := some { d with timer := some (d.timeoutMs * 25000) } } }.answerDeferred d .timeout))
     ∧ (s.link.awaiting = none → s.notices.timer = some 0 →
       Claims.steps (s.notices.interval.toNat * 250000 + 1) s
         = .next { s with notices := s.notices.expire }))

/-! ## Invariants -/

/-- The state after reset satisfies every block's invariant, and holds the values of the reset tables; what the manual
does not fix there (the cause, the rate, HOLD, the levels presented) is the model's (log entries 3, 4 and 5). -/
def Obligations.ResetSatisfiesTheInvariant : Prop :=
  Inv State.reset ∧ afterReset State.reset .powerOn .r115200 false = State.reset ∧ State.reset.pending = []
    ∧ State.reset.attn = true

/-- Every step keeps the timebase's ranges, RUNNING free of hold reasons and HELD with one. -/
def Obligations.StepKeepsTheTimebase : Prop :=
  ∀ s t : State, TimebaseOk s.timebase → step s = .next t → TimebaseOk t.timebase

/-- Every step keeps each line's levels, slots and takeover as its mode and the hold reasons ask. -/
def Obligations.StepKeepsTheLines : Prop :=
  ∀ s t : State, LinesOk s → step s = .next t → LinesOk t

/-- Every step keeps the Capture Queue: at most 256 entries, consecutive qseq, the pointer within, a loss only when
full. -/
def Obligations.StepKeepsTheCaptureQueue : Prop :=
  ∀ s t : State, QueueOk s.queue → step s = .next t → QueueOk t.queue

/-- Every step keeps the agenda and the rules: at most 64 entries, no tag twice, nearest due first, every due in the
future, every line in DRIVE. -/
def Obligations.StepKeepsTheAgenda : Prop :=
  ∀ s t : State, AgendaOk s → RulesOk s → step s = .next t → AgendaOk t ∧ RulesOk t

/-- Every step keeps the Notice Queue: at most 32 records of which 31 are ordinary, consecutive nseq, the SENT records
at the head, the first sending in transmission that of the oldest UNSENT record. -/
def Obligations.StepKeepsTheNotices : Prop :=
  ∀ s t : State, NoticesOk s.notices s.link.tx → step s = .next t → NoticesOk t.notices t.link.tx

/-- Every step keeps every block's invariant together, with a deferred AWAIT's condition false while its timer runs. -/
def Obligations.StepKeepsTheInvariant : Prop :=
  ∀ s t : State, Inv s → step s = .next t → Inv t
end

