-- ==== Sys2Proof/Laws/State.lean ====
section
/-! SUPPORT. One lemma per field per update: what a named update of the state leaves alone, each by rfl. The field an
update changes has its own lemma below them. -/

namespace Sys2Proof.Machine

@[simp] theorem State.setLine_timebase (s : State) (i : LineId) (l : Line) : (s.setLine i l).timebase = s.timebase := rfl
@[simp] theorem State.setLine_qualifiers (s : State) (i : LineId) (l : Line) : (s.setLine i l).qualifiers = s.qualifiers := rfl
@[simp] theorem State.setLine_queue (s : State) (i : LineId) (l : Line) : (s.setLine i l).queue = s.queue := rfl
@[simp] theorem State.setLine_agenda (s : State) (i : LineId) (l : Line) : (s.setLine i l).agenda = s.agenda := rfl
@[simp] theorem State.setLine_rules (s : State) (i : LineId) (l : Line) : (s.setLine i l).rules = s.rules := rfl
@[simp] theorem State.setLine_notices (s : State) (i : LineId) (l : Line) : (s.setLine i l).notices = s.notices := rfl
@[simp] theorem State.setLine_link (s : State) (i : LineId) (l : Line) : (s.setLine i l).link = s.link := rfl
@[simp] theorem State.setLine_power (s : State) (i : LineId) (l : Line) : (s.setLine i l).power = s.power := rfl
@[simp] theorem State.setLine_inputs (s : State) (i : LineId) (l : Line) : (s.setLine i l).inputs = s.inputs := rfl
@[simp] theorem State.setLine_freeCount (s : State) (i : LineId) (l : Line) : (s.setLine i l).freeCount = s.freeCount := rfl
@[simp] theorem State.setLine_pending (s : State) (i : LineId) (l : Line) : (s.setLine i l).pending = s.pending := rfl
@[simp] theorem State.actOn_timebase (s : State) (i : LineId) (a : LevelAction) : (s.actOn i a).timebase = s.timebase := rfl
@[simp] theorem State.actOn_qualifiers (s : State) (i : LineId) (a : LevelAction) : (s.actOn i a).qualifiers = s.qualifiers := rfl
@[simp] theorem State.actOn_queue (s : State) (i : LineId) (a : LevelAction) : (s.actOn i a).queue = s.queue := rfl
@[simp] theorem State.actOn_agenda (s : State) (i : LineId) (a : LevelAction) : (s.actOn i a).agenda = s.agenda := rfl
@[simp] theorem State.actOn_rules (s : State) (i : LineId) (a : LevelAction) : (s.actOn i a).rules = s.rules := rfl
@[simp] theorem State.actOn_notices (s : State) (i : LineId) (a : LevelAction) : (s.actOn i a).notices = s.notices := rfl
@[simp] theorem State.actOn_link (s : State) (i : LineId) (a : LevelAction) : (s.actOn i a).link = s.link := rfl
@[simp] theorem State.actOn_power (s : State) (i : LineId) (a : LevelAction) : (s.actOn i a).power = s.power := rfl
@[simp] theorem State.actOn_inputs (s : State) (i : LineId) (a : LevelAction) : (s.actOn i a).inputs = s.inputs := rfl
@[simp] theorem State.actOn_freeCount (s : State) (i : LineId) (a : LevelAction) : (s.actOn i a).freeCount = s.freeCount := rfl
@[simp] theorem State.actOn_pending (s : State) (i : LineId) (a : LevelAction) : (s.actOn i a).pending = s.pending := rfl
@[simp] theorem State.setRule_timebase (s : State) (k : RuleId) (r : Option FollowRule) : (s.setRule k r).timebase = s.timebase := rfl
@[simp] theorem State.setRule_lines (s : State) (k : RuleId) (r : Option FollowRule) : (s.setRule k r).lines = s.lines := rfl
@[simp] theorem State.setRule_qualifiers (s : State) (k : RuleId) (r : Option FollowRule) : (s.setRule k r).qualifiers = s.qualifiers := rfl
@[simp] theorem State.setRule_queue (s : State) (k : RuleId) (r : Option FollowRule) : (s.setRule k r).queue = s.queue := rfl
@[simp] theorem State.setRule_agenda (s : State) (k : RuleId) (r : Option FollowRule) : (s.setRule k r).agenda = s.agenda := rfl
@[simp] theorem State.setRule_notices (s : State) (k : RuleId) (r : Option FollowRule) : (s.setRule k r).notices = s.notices := rfl
@[simp] theorem State.setRule_link (s : State) (k : RuleId) (r : Option FollowRule) : (s.setRule k r).link = s.link := rfl
@[simp] theorem State.setRule_power (s : State) (k : RuleId) (r : Option FollowRule) : (s.setRule k r).power = s.power := rfl
@[simp] theorem State.setRule_inputs (s : State) (k : RuleId) (r : Option FollowRule) : (s.setRule k r).inputs = s.inputs := rfl
@[simp] theorem State.setRule_freeCount (s : State) (k : RuleId) (r : Option FollowRule) : (s.setRule k r).freeCount = s.freeCount := rfl
@[simp] theorem State.setRule_pending (s : State) (k : RuleId) (r : Option FollowRule) : (s.setRule k r).pending = s.pending := rfl
@[simp] theorem State.insertEntry_timebase (s : State) (e : AgendaEntry) : (s.insertEntry e).timebase = s.timebase := rfl
@[simp] theorem State.insertEntry_lines (s : State) (e : AgendaEntry) : (s.insertEntry e).lines = s.lines := rfl
@[simp] theorem State.insertEntry_qualifiers (s : State) (e : AgendaEntry) : (s.insertEntry e).qualifiers = s.qualifiers := rfl
@[simp] theorem State.insertEntry_queue (s : State) (e : AgendaEntry) : (s.insertEntry e).queue = s.queue := rfl
@[simp] theorem State.insertEntry_rules (s : State) (e : AgendaEntry) : (s.insertEntry e).rules = s.rules := rfl
@[simp] theorem State.insertEntry_notices (s : State) (e : AgendaEntry) : (s.insertEntry e).notices = s.notices := rfl
@[simp] theorem State.insertEntry_link (s : State) (e : AgendaEntry) : (s.insertEntry e).link = s.link := rfl
@[simp] theorem State.insertEntry_power (s : State) (e : AgendaEntry) : (s.insertEntry e).power = s.power := rfl
@[simp] theorem State.insertEntry_inputs (s : State) (e : AgendaEntry) : (s.insertEntry e).inputs = s.inputs := rfl
@[simp] theorem State.insertEntry_freeCount (s : State) (e : AgendaEntry) : (s.insertEntry e).freeCount = s.freeCount := rfl
@[simp] theorem State.insertEntry_pending (s : State) (e : AgendaEntry) : (s.insertEntry e).pending = s.pending := rfl
@[simp] theorem State.removeEntry_timebase (s : State) (tag : Half) : (s.removeEntry tag).timebase = s.timebase := rfl
@[simp] theorem State.removeEntry_lines (s : State) (tag : Half) : (s.removeEntry tag).lines = s.lines := rfl
@[simp] theorem State.removeEntry_qualifiers (s : State) (tag : Half) : (s.removeEntry tag).qualifiers = s.qualifiers := rfl
@[simp] theorem State.removeEntry_queue (s : State) (tag : Half) : (s.removeEntry tag).queue = s.queue := rfl
@[simp] theorem State.removeEntry_rules (s : State) (tag : Half) : (s.removeEntry tag).rules = s.rules := rfl
@[simp] theorem State.removeEntry_notices (s : State) (tag : Half) : (s.removeEntry tag).notices = s.notices := rfl
@[simp] theorem State.removeEntry_link (s : State) (tag : Half) : (s.removeEntry tag).link = s.link := rfl
@[simp] theorem State.removeEntry_power (s : State) (tag : Half) : (s.removeEntry tag).power = s.power := rfl
@[simp] theorem State.removeEntry_inputs (s : State) (tag : Half) : (s.removeEntry tag).inputs = s.inputs := rfl
@[simp] theorem State.removeEntry_freeCount (s : State) (tag : Half) : (s.removeEntry tag).freeCount = s.freeCount := rfl
@[simp] theorem State.removeEntry_pending (s : State) (tag : Half) : (s.removeEntry tag).pending = s.pending := rfl
@[simp] theorem State.recordFired_timebase (s : State) (tag : Half) : (s.recordFired tag).timebase = s.timebase := rfl
@[simp] theorem State.recordFired_lines (s : State) (tag : Half) : (s.recordFired tag).lines = s.lines := rfl
@[simp] theorem State.recordFired_qualifiers (s : State) (tag : Half) : (s.recordFired tag).qualifiers = s.qualifiers := rfl
@[simp] theorem State.recordFired_queue (s : State) (tag : Half) : (s.recordFired tag).queue = s.queue := rfl
@[simp] theorem State.recordFired_rules (s : State) (tag : Half) : (s.recordFired tag).rules = s.rules := rfl
@[simp] theorem State.recordFired_notices (s : State) (tag : Half) : (s.recordFired tag).notices = s.notices := rfl
@[simp] theorem State.recordFired_link (s : State) (tag : Half) : (s.recordFired tag).link = s.link := rfl
@[simp] theorem State.recordFired_power (s : State) (tag : Half) : (s.recordFired tag).power = s.power := rfl
@[simp] theorem State.recordFired_inputs (s : State) (tag : Half) : (s.recordFired tag).inputs = s.inputs := rfl
@[simp] theorem State.recordFired_freeCount (s : State) (tag : Half) : (s.recordFired tag).freeCount = s.freeCount := rfl
@[simp] theorem State.recordFired_pending (s : State) (tag : Half) : (s.recordFired tag).pending = s.pending := rfl
@[simp] theorem State.raise_timebase (s : State) (b : NoticeBody) : (s.raise b).timebase = s.timebase := rfl
@[simp] theorem State.raise_lines (s : State) (b : NoticeBody) : (s.raise b).lines = s.lines := rfl
@[simp] theorem State.raise_qualifiers (s : State) (b : NoticeBody) : (s.raise b).qualifiers = s.qualifiers := rfl
@[simp] theorem State.raise_queue (s : State) (b : NoticeBody) : (s.raise b).queue = s.queue := rfl
@[simp] theorem State.raise_agenda (s : State) (b : NoticeBody) : (s.raise b).agenda = s.agenda := rfl
@[simp] theorem State.raise_rules (s : State) (b : NoticeBody) : (s.raise b).rules = s.rules := rfl
@[simp] theorem State.raise_link (s : State) (b : NoticeBody) : (s.raise b).link = s.link := rfl
@[simp] theorem State.raise_power (s : State) (b : NoticeBody) : (s.raise b).power = s.power := rfl
@[simp] theorem State.raise_inputs (s : State) (b : NoticeBody) : (s.raise b).inputs = s.inputs := rfl
@[simp] theorem State.raise_freeCount (s : State) (b : NoticeBody) : (s.raise b).freeCount = s.freeCount := rfl
@[simp] theorem State.raise_pending (s : State) (b : NoticeBody) : (s.raise b).pending = s.pending := rfl
@[simp] theorem State.answerDeferred_timebase (s : State) (d : Deferred) (c : ResultCode) : (s.answerDeferred d c).timebase = s.timebase := rfl
@[simp] theorem State.answerDeferred_lines (s : State) (d : Deferred) (c : ResultCode) : (s.answerDeferred d c).lines = s.lines := rfl
@[simp] theorem State.answerDeferred_qualifiers (s : State) (d : Deferred) (c : ResultCode) : (s.answerDeferred d c).qualifiers = s.qualifiers := rfl
@[simp] theorem State.answerDeferred_queue (s : State) (d : Deferred) (c : ResultCode) : (s.answerDeferred d c).queue = s.queue := rfl
@[simp] theorem State.answerDeferred_agenda (s : State) (d : Deferred) (c : ResultCode) : (s.answerDeferred d c).agenda = s.agenda := rfl
@[simp] theorem State.answerDeferred_rules (s : State) (d : Deferred) (c : ResultCode) : (s.answerDeferred d c).rules = s.rules := rfl
@[simp] theorem State.answerDeferred_notices (s : State) (d : Deferred) (c : ResultCode) : (s.answerDeferred d c).notices = s.notices := rfl
@[simp] theorem State.answerDeferred_power (s : State) (d : Deferred) (c : ResultCode) : (s.answerDeferred d c).power = s.power := rfl
@[simp] theorem State.answerDeferred_inputs (s : State) (d : Deferred) (c : ResultCode) : (s.answerDeferred d c).inputs = s.inputs := rfl
@[simp] theorem State.answerDeferred_freeCount (s : State) (d : Deferred) (c : ResultCode) : (s.answerDeferred d c).freeCount = s.freeCount := rfl
@[simp] theorem State.answerDeferred_pending (s : State) (d : Deferred) (c : ResultCode) : (s.answerDeferred d c).pending = s.pending := rfl
@[simp] theorem State.abandonAll_timebase (s : State) : (s.abandonAll).timebase = s.timebase := rfl
@[simp] theorem State.abandonAll_lines (s : State) : (s.abandonAll).lines = s.lines := rfl
@[simp] theorem State.abandonAll_queue (s : State) : (s.abandonAll).queue = s.queue := rfl
@[simp] theorem State.abandonAll_agenda (s : State) : (s.abandonAll).agenda = s.agenda := rfl
@[simp] theorem State.abandonAll_rules (s : State) : (s.abandonAll).rules = s.rules := rfl
@[simp] theorem State.abandonAll_notices (s : State) : (s.abandonAll).notices = s.notices := rfl
@[simp] theorem State.abandonAll_link (s : State) : (s.abandonAll).link = s.link := rfl
@[simp] theorem State.abandonAll_power (s : State) : (s.abandonAll).power = s.power := rfl
@[simp] theorem State.abandonAll_inputs (s : State) : (s.abandonAll).inputs = s.inputs := rfl
@[simp] theorem State.abandonAll_freeCount (s : State) : (s.abandonAll).freeCount = s.freeCount := rfl
@[simp] theorem State.abandonAll_pending (s : State) : (s.abandonAll).pending = s.pending := rfl
@[simp] theorem State.forgetSamples_timebase (s : State) : (s.forgetSamples).timebase = s.timebase := rfl
@[simp] theorem State.forgetSamples_lines (s : State) : (s.forgetSamples).lines = s.lines := rfl
@[simp] theorem State.forgetSamples_queue (s : State) : (s.forgetSamples).queue = s.queue := rfl
@[simp] theorem State.forgetSamples_agenda (s : State) : (s.forgetSamples).agenda = s.agenda := rfl
@[simp] theorem State.forgetSamples_rules (s : State) : (s.forgetSamples).rules = s.rules := rfl
@[simp] theorem State.forgetSamples_notices (s : State) : (s.forgetSamples).notices = s.notices := rfl
@[simp] theorem State.forgetSamples_link (s : State) : (s.forgetSamples).link = s.link := rfl
@[simp] theorem State.forgetSamples_power (s : State) : (s.forgetSamples).power = s.power := rfl
@[simp] theorem State.forgetSamples_inputs (s : State) : (s.forgetSamples).inputs = s.inputs := rfl
@[simp] theorem State.forgetSamples_freeCount (s : State) : (s.forgetSamples).freeCount = s.freeCount := rfl
@[simp] theorem State.forgetSamples_pending (s : State) : (s.forgetSamples).pending = s.pending := rfl
@[simp] theorem State.leaveRunning_lines (s : State) (n : TimebaseState) : (s.leaveRunning n).lines = s.lines := rfl
@[simp] theorem State.leaveRunning_queue (s : State) (n : TimebaseState) : (s.leaveRunning n).queue = s.queue := rfl
@[simp] theorem State.leaveRunning_agenda (s : State) (n : TimebaseState) : (s.leaveRunning n).agenda = s.agenda := rfl
@[simp] theorem State.leaveRunning_rules (s : State) (n : TimebaseState) : (s.leaveRunning n).rules = s.rules := rfl
@[simp] theorem State.leaveRunning_notices (s : State) (n : TimebaseState) : (s.leaveRunning n).notices = s.notices := rfl
@[simp] theorem State.leaveRunning_link (s : State) (n : TimebaseState) : (s.leaveRunning n).link = s.link := rfl
@[simp] theorem State.leaveRunning_power (s : State) (n : TimebaseState) : (s.leaveRunning n).power = s.power := rfl
@[simp] theorem State.leaveRunning_inputs (s : State) (n : TimebaseState) : (s.leaveRunning n).inputs = s.inputs := rfl
@[simp] theorem State.leaveRunning_freeCount (s : State) (n : TimebaseState) : (s.leaveRunning n).freeCount = s.freeCount := rfl
@[simp] theorem State.leaveRunning_pending (s : State) (n : TimebaseState) : (s.leaveRunning n).pending = s.pending := rfl
@[simp] theorem State.enterRunning_lines (s : State) : (s.enterRunning).lines = s.lines := rfl
@[simp] theorem State.enterRunning_queue (s : State) : (s.enterRunning).queue = s.queue := rfl
@[simp] theorem State.enterRunning_agenda (s : State) : (s.enterRunning).agenda = s.agenda := rfl
@[simp] theorem State.enterRunning_rules (s : State) : (s.enterRunning).rules = s.rules := rfl
@[simp] theorem State.enterRunning_notices (s : State) : (s.enterRunning).notices = s.notices := rfl
@[simp] theorem State.enterRunning_link (s : State) : (s.enterRunning).link = s.link := rfl
@[simp] theorem State.enterRunning_power (s : State) : (s.enterRunning).power = s.power := rfl
@[simp] theorem State.enterRunning_inputs (s : State) : (s.enterRunning).inputs = s.inputs := rfl
@[simp] theorem State.enterRunning_freeCount (s : State) : (s.enterRunning).freeCount = s.freeCount := rfl
@[simp] theorem State.enterRunning_pending (s : State) : (s.enterRunning).pending = s.pending := rfl
@[simp] theorem State.countTick_lines (s : State) (pins : Half) : (s.countTick pins).lines = s.lines := rfl
@[simp] theorem State.countTick_qualifiers (s : State) (pins : Half) : (s.countTick pins).qualifiers = s.qualifiers := rfl
@[simp] theorem State.countTick_queue (s : State) (pins : Half) : (s.countTick pins).queue = s.queue := rfl
@[simp] theorem State.countTick_agenda (s : State) (pins : Half) : (s.countTick pins).agenda = s.agenda := rfl
@[simp] theorem State.countTick_rules (s : State) (pins : Half) : (s.countTick pins).rules = s.rules := rfl
@[simp] theorem State.countTick_notices (s : State) (pins : Half) : (s.countTick pins).notices = s.notices := rfl
@[simp] theorem State.countTick_link (s : State) (pins : Half) : (s.countTick pins).link = s.link := rfl
@[simp] theorem State.countTick_power (s : State) (pins : Half) : (s.countTick pins).power = s.power := rfl
@[simp] theorem State.countTick_freeCount (s : State) (pins : Half) : (s.countTick pins).freeCount = s.freeCount := rfl
@[simp] theorem State.countTick_pending (s : State) (pins : Half) : (s.countTick pins).pending = s.pending := rfl
@[simp] theorem State.sampleAll_timebase (s : State) : (s.sampleAll).timebase = s.timebase := rfl
@[simp] theorem State.sampleAll_lines (s : State) : (s.sampleAll).lines = s.lines := rfl
@[simp] theorem State.sampleAll_queue (s : State) : (s.sampleAll).queue = s.queue := rfl
@[simp] theorem State.sampleAll_agenda (s : State) : (s.sampleAll).agenda = s.agenda := rfl
@[simp] theorem State.sampleAll_rules (s : State) : (s.sampleAll).rules = s.rules := rfl
@[simp] theorem State.sampleAll_notices (s : State) : (s.sampleAll).notices = s.notices := rfl
@[simp] theorem State.sampleAll_link (s : State) : (s.sampleAll).link = s.link := rfl
@[simp] theorem State.sampleAll_power (s : State) : (s.sampleAll).power = s.power := rfl
@[simp] theorem State.sampleAll_inputs (s : State) : (s.sampleAll).inputs = s.inputs := rfl
@[simp] theorem State.sampleAll_freeCount (s : State) : (s.sampleAll).freeCount = s.freeCount := rfl
@[simp] theorem State.sampleAll_pending (s : State) : (s.sampleAll).pending = s.pending := rfl
@[simp] theorem State.present_timebase (s : State) (pins : Half) : (s.present pins).timebase = s.timebase := rfl
@[simp] theorem State.present_lines (s : State) (pins : Half) : (s.present pins).lines = s.lines := rfl
@[simp] theorem State.present_qualifiers (s : State) (pins : Half) : (s.present pins).qualifiers = s.qualifiers := rfl
@[simp] theorem State.present_queue (s : State) (pins : Half) : (s.present pins).queue = s.queue := rfl
@[simp] theorem State.present_agenda (s : State) (pins : Half) : (s.present pins).agenda = s.agenda := rfl
@[simp] theorem State.present_rules (s : State) (pins : Half) : (s.present pins).rules = s.rules := rfl
@[simp] theorem State.present_notices (s : State) (pins : Half) : (s.present pins).notices = s.notices := rfl
@[simp] theorem State.present_link (s : State) (pins : Half) : (s.present pins).link = s.link := rfl
@[simp] theorem State.present_power (s : State) (pins : Half) : (s.present pins).power = s.power := rfl
@[simp] theorem State.present_freeCount (s : State) (pins : Half) : (s.present pins).freeCount = s.freeCount := rfl
@[simp] theorem State.present_pending (s : State) (pins : Half) : (s.present pins).pending = s.pending := rfl
@[simp] theorem State.endFrame_timebase (s : State) : (s.endFrame).timebase = s.timebase := rfl
@[simp] theorem State.endFrame_lines (s : State) : (s.endFrame).lines = s.lines := rfl
@[simp] theorem State.endFrame_qualifiers (s : State) : (s.endFrame).qualifiers = s.qualifiers := rfl
@[simp] theorem State.endFrame_queue (s : State) : (s.endFrame).queue = s.queue := rfl
@[simp] theorem State.endFrame_agenda (s : State) : (s.endFrame).agenda = s.agenda := rfl
@[simp] theorem State.endFrame_rules (s : State) : (s.endFrame).rules = s.rules := rfl
@[simp] theorem State.endFrame_notices (s : State) : (s.endFrame).notices = s.notices := rfl
@[simp] theorem State.endFrame_power (s : State) : (s.endFrame).power = s.power := rfl
@[simp] theorem State.endFrame_inputs (s : State) : (s.endFrame).inputs = s.inputs := rfl
@[simp] theorem State.endFrame_freeCount (s : State) : (s.endFrame).freeCount = s.freeCount := rfl
@[simp] theorem State.endFrame_pending (s : State) : (s.endFrame).pending = s.pending := rfl
@[simp] theorem State.clearCounters_timebase (s : State) : (s.clearCounters).timebase = s.timebase := rfl
@[simp] theorem State.clearCounters_lines (s : State) : (s.clearCounters).lines = s.lines := rfl
@[simp] theorem State.clearCounters_qualifiers (s : State) : (s.clearCounters).qualifiers = s.qualifiers := rfl
@[simp] theorem State.clearCounters_queue (s : State) : (s.clearCounters).queue = s.queue := rfl
@[simp] theorem State.clearCounters_agenda (s : State) : (s.clearCounters).agenda = s.agenda := rfl
@[simp] theorem State.clearCounters_rules (s : State) : (s.clearCounters).rules = s.rules := rfl
@[simp] theorem State.clearCounters_notices (s : State) : (s.clearCounters).notices = s.notices := rfl
@[simp] theorem State.clearCounters_power (s : State) : (s.clearCounters).power = s.power := rfl
@[simp] theorem State.clearCounters_inputs (s : State) : (s.clearCounters).inputs = s.inputs := rfl
@[simp] theorem State.clearCounters_freeCount (s : State) : (s.clearCounters).freeCount = s.freeCount := rfl
@[simp] theorem State.clearCounters_pending (s : State) : (s.clearCounters).pending = s.pending := rfl
@[simp] theorem State.defer_timebase (s : State) (q : Byte) (x : Half) (c : AwaitCondition) (n : Nat) : (s.defer q x c n).timebase = s.timebase := rfl
@[simp] theorem State.defer_lines (s : State) (q : Byte) (x : Half) (c : AwaitCondition) (n : Nat) : (s.defer q x c n).lines = s.lines := rfl
@[simp] theorem State.defer_qualifiers (s : State) (q : Byte) (x : Half) (c : AwaitCondition) (n : Nat) : (s.defer q x c n).qualifiers = s.qualifiers := rfl
@[simp] theorem State.defer_queue (s : State) (q : Byte) (x : Half) (c : AwaitCondition) (n : Nat) : (s.defer q x c n).queue = s.queue := rfl
@[simp] theorem State.defer_agenda (s : State) (q : Byte) (x : Half) (c : AwaitCondition) (n : Nat) : (s.defer q x c n).agenda = s.agenda := rfl
@[simp] theorem State.defer_rules (s : State) (q : Byte) (x : Half) (c : AwaitCondition) (n : Nat) : (s.defer q x c n).rules = s.rules := rfl
@[simp] theorem State.defer_notices (s : State) (q : Byte) (x : Half) (c : AwaitCondition) (n : Nat) : (s.defer q x c n).notices = s.notices := rfl
@[simp] theorem State.defer_power (s : State) (q : Byte) (x : Half) (c : AwaitCondition) (n : Nat) : (s.defer q x c n).power = s.power := rfl
@[simp] theorem State.defer_inputs (s : State) (q : Byte) (x : Half) (c : AwaitCondition) (n : Nat) : (s.defer q x c n).inputs = s.inputs := rfl
@[simp] theorem State.defer_freeCount (s : State) (q : Byte) (x : Half) (c : AwaitCondition) (n : Nat) : (s.defer q x c n).freeCount = s.freeCount := rfl
@[simp] theorem State.defer_pending (s : State) (q : Byte) (x : Half) (c : AwaitCondition) (n : Nat) : (s.defer q x c n).pending = s.pending := rfl
@[simp] theorem State.setReceiver_timebase (s : State) (r : Receiver) : (s.setReceiver r).timebase = s.timebase := rfl
@[simp] theorem State.setReceiver_lines (s : State) (r : Receiver) : (s.setReceiver r).lines = s.lines := rfl
@[simp] theorem State.setReceiver_qualifiers (s : State) (r : Receiver) : (s.setReceiver r).qualifiers = s.qualifiers := rfl
@[simp] theorem State.setReceiver_queue (s : State) (r : Receiver) : (s.setReceiver r).queue = s.queue := rfl
@[simp] theorem State.setReceiver_agenda (s : State) (r : Receiver) : (s.setReceiver r).agenda = s.agenda := rfl
@[simp] theorem State.setReceiver_rules (s : State) (r : Receiver) : (s.setReceiver r).rules = s.rules := rfl
@[simp] theorem State.setReceiver_notices (s : State) (r : Receiver) : (s.setReceiver r).notices = s.notices := rfl
@[simp] theorem State.setReceiver_power (s : State) (r : Receiver) : (s.setReceiver r).power = s.power := rfl
@[simp] theorem State.setReceiver_inputs (s : State) (r : Receiver) : (s.setReceiver r).inputs = s.inputs := rfl
@[simp] theorem State.setReceiver_freeCount (s : State) (r : Receiver) : (s.setReceiver r).freeCount = s.freeCount := rfl
@[simp] theorem State.setReceiver_pending (s : State) (r : Receiver) : (s.setReceiver r).pending = s.pending := rfl
@[simp] theorem State.discardFrame_timebase (s : State) (c : DiscardCause) : (s.discardFrame c).timebase = s.timebase := rfl
@[simp] theorem State.discardFrame_lines (s : State) (c : DiscardCause) : (s.discardFrame c).lines = s.lines := rfl
@[simp] theorem State.discardFrame_qualifiers (s : State) (c : DiscardCause) : (s.discardFrame c).qualifiers = s.qualifiers := rfl
@[simp] theorem State.discardFrame_queue (s : State) (c : DiscardCause) : (s.discardFrame c).queue = s.queue := rfl
@[simp] theorem State.discardFrame_agenda (s : State) (c : DiscardCause) : (s.discardFrame c).agenda = s.agenda := rfl
@[simp] theorem State.discardFrame_rules (s : State) (c : DiscardCause) : (s.discardFrame c).rules = s.rules := rfl
@[simp] theorem State.discardFrame_notices (s : State) (c : DiscardCause) : (s.discardFrame c).notices = s.notices := rfl
@[simp] theorem State.discardFrame_power (s : State) (c : DiscardCause) : (s.discardFrame c).power = s.power := rfl
@[simp] theorem State.discardFrame_inputs (s : State) (c : DiscardCause) : (s.discardFrame c).inputs = s.inputs := rfl
@[simp] theorem State.discardFrame_freeCount (s : State) (c : DiscardCause) : (s.discardFrame c).freeCount = s.freeCount := rfl
@[simp] theorem State.discardFrame_pending (s : State) (c : DiscardCause) : (s.discardFrame c).pending = s.pending := rfl
@[simp] theorem State.countOverrun_timebase (s : State) : (s.countOverrun).timebase = s.timebase := rfl
@[simp] theorem State.countOverrun_lines (s : State) : (s.countOverrun).lines = s.lines := rfl
@[simp] theorem State.countOverrun_qualifiers (s : State) : (s.countOverrun).qualifiers = s.qualifiers := rfl
@[simp] theorem State.countOverrun_queue (s : State) : (s.countOverrun).queue = s.queue := rfl
@[simp] theorem State.countOverrun_agenda (s : State) : (s.countOverrun).agenda = s.agenda := rfl
@[simp] theorem State.countOverrun_rules (s : State) : (s.countOverrun).rules = s.rules := rfl
@[simp] theorem State.countOverrun_notices (s : State) : (s.countOverrun).notices = s.notices := rfl
@[simp] theorem State.countOverrun_power (s : State) : (s.countOverrun).power = s.power := rfl
@[simp] theorem State.countOverrun_inputs (s : State) : (s.countOverrun).inputs = s.inputs := rfl
@[simp] theorem State.countOverrun_freeCount (s : State) : (s.countOverrun).freeCount = s.freeCount := rfl
@[simp] theorem State.countOverrun_pending (s : State) : (s.countOverrun).pending = s.pending := rfl
@[simp] theorem State.repeatExpiry_timebase (s : State) : (s.repeatExpiry).timebase = s.timebase := rfl
@[simp] theorem State.repeatExpiry_lines (s : State) : (s.repeatExpiry).lines = s.lines := rfl
@[simp] theorem State.repeatExpiry_qualifiers (s : State) : (s.repeatExpiry).qualifiers = s.qualifiers := rfl
@[simp] theorem State.repeatExpiry_queue (s : State) : (s.repeatExpiry).queue = s.queue := rfl
@[simp] theorem State.repeatExpiry_agenda (s : State) : (s.repeatExpiry).agenda = s.agenda := rfl
@[simp] theorem State.repeatExpiry_rules (s : State) : (s.repeatExpiry).rules = s.rules := rfl
@[simp] theorem State.repeatExpiry_link (s : State) : (s.repeatExpiry).link = s.link := rfl
@[simp] theorem State.repeatExpiry_power (s : State) : (s.repeatExpiry).power = s.power := rfl
@[simp] theorem State.repeatExpiry_inputs (s : State) : (s.repeatExpiry).inputs = s.inputs := rfl
@[simp] theorem State.repeatExpiry_freeCount (s : State) : (s.repeatExpiry).freeCount = s.freeCount := rfl
@[simp] theorem State.repeatExpiry_pending (s : State) : (s.repeatExpiry).pending = s.pending := rfl
@[simp] theorem State.withPending_timebase (s : State) (q : List Instr) : (s.withPending q).timebase = s.timebase := rfl
@[simp] theorem State.withPending_lines (s : State) (q : List Instr) : (s.withPending q).lines = s.lines := rfl
@[simp] theorem State.withPending_qualifiers (s : State) (q : List Instr) : (s.withPending q).qualifiers = s.qualifiers := rfl
@[simp] theorem State.withPending_queue (s : State) (q : List Instr) : (s.withPending q).queue = s.queue := rfl
@[simp] theorem State.withPending_agenda (s : State) (q : List Instr) : (s.withPending q).agenda = s.agenda := rfl
@[simp] theorem State.withPending_rules (s : State) (q : List Instr) : (s.withPending q).rules = s.rules := rfl
@[simp] theorem State.withPending_notices (s : State) (q : List Instr) : (s.withPending q).notices = s.notices := rfl
@[simp] theorem State.withPending_link (s : State) (q : List Instr) : (s.withPending q).link = s.link := rfl
@[simp] theorem State.withPending_power (s : State) (q : List Instr) : (s.withPending q).power = s.power := rfl
@[simp] theorem State.withPending_inputs (s : State) (q : List Instr) : (s.withPending q).inputs = s.inputs := rfl
@[simp] theorem State.withPending_freeCount (s : State) (q : List Instr) : (s.withPending q).freeCount = s.freeCount := rfl
@[simp] theorem State.period_lines (s : State) : (s.period).lines = s.lines := rfl
@[simp] theorem State.period_qualifiers (s : State) : (s.period).qualifiers = s.qualifiers := rfl
@[simp] theorem State.period_queue (s : State) : (s.period).queue = s.queue := rfl
@[simp] theorem State.period_agenda (s : State) : (s.period).agenda = s.agenda := rfl
@[simp] theorem State.period_rules (s : State) : (s.period).rules = s.rules := rfl
@[simp] theorem State.period_power (s : State) : (s.period).power = s.power := rfl
@[simp] theorem State.period_inputs (s : State) : (s.period).inputs = s.inputs := rfl
@[simp] theorem State.period_freeCount (s : State) : (s.period).freeCount = s.freeCount := rfl
@[simp] theorem State.period_pending (s : State) : (s.period).pending = s.pending := rfl

/-! ## The field an update changes -/

@[simp] theorem State.setLine_lines (s : State) (i : LineId) (l : Line) : (s.setLine i l).lines = s.lines.set i l := rfl
@[simp] theorem State.actOn_lines (s : State) (i : LineId) (a : LevelAction) :
    (s.actOn i a).lines = s.lines.set i ((s.line i).act a) := rfl
@[simp] theorem State.setRule_rules (s : State) (k : RuleId) (r : Option FollowRule) :
    (s.setRule k r).rules = s.rules.set k r := rfl
@[simp] theorem State.insertEntry_agenda (s : State) (e : AgendaEntry) :
    (s.insertEntry e).agenda = s.agenda.insert s.timebase.time e := rfl
@[simp] theorem State.removeEntry_agenda (s : State) (tag : Half) : (s.removeEntry tag).agenda = s.agenda.remove tag := rfl
@[simp] theorem State.recordFired_agenda (s : State) (tag : Half) : (s.recordFired tag).agenda = s.agenda.record tag := rfl
@[simp] theorem State.raise_notices (s : State) (b : NoticeBody) :
    (s.raise b).notices = s.notices.raise s.timebase.time b := rfl
@[simp] theorem State.countTick_timebase (s : State) (pins : Half) : (s.countTick pins).timebase = s.timebase.advance := rfl
@[simp] theorem State.countTick_inputs (s : State) (pins : Half) : (s.countTick pins).inputs = pins := rfl
@[simp] theorem State.present_inputs (s : State) (pins : Half) : (s.present pins).inputs = pins := rfl
@[simp] theorem State.withPending_pending (s : State) (q : List Instr) : (s.withPending q).pending = q := rfl
@[simp] theorem State.setReceiver_rx (s : State) (r : Receiver) : (s.setReceiver r).link.rx = r := rfl
@[simp] theorem State.repeatExpiry_notices (s : State) : s.repeatExpiry.notices = s.notices.expire := rfl
@[simp] theorem State.leaveRunning_state (s : State) (n : TimebaseState) : (s.leaveRunning n).timebase.state = n := rfl
@[simp] theorem State.enterRunning_state (s : State) : s.enterRunning.timebase.state = .running := rfl

/-! ## Banks -/

theorem Bank.ext_get {n : Nat} {α : Type} {a b : Bank n α} (h : ∀ i, a.get i = b.get i) : a = b := by
  obtain ⟨x, hx⟩ := a
  obtain ⟨y, hy⟩ := b
  have : x = y := List.ext_getElem (hx.trans hy.symm) fun k h1 h2 => by
    simpa [Bank.get] using h ⟨k, hx ▸ h1⟩
  subst this
  rfl

theorem Bank.get_set {n : Nat} {α : Type} (b : Bank n α) (i j : Fin n) (a : α) :
    (b.set i a).get j = if i = j then a else b.get j := by
  simp [Bank.get, Bank.set, List.getElem_set, Fin.ext_iff]

@[simp] theorem Bank.get_set_self {n : Nat} {α : Type} (b : Bank n α) (i : Fin n) (a : α) : (b.set i a).get i = a := by
  simp [Bank.get_set]

@[simp] theorem Bank.get_map {n : Nat} {α β : Type} (f : α → β) (b : Bank n α) (i : Fin n) :
    (b.map f).get i = f (b.get i) := by
  simp [Bank.get, Bank.map]

@[simp] theorem Bank.get_mapEach {n : Nat} {α β : Type} (f : Fin n → α → β) (b : Bank n α) (i : Fin n) :
    (b.mapEach f).get i = f i (b.get i) := by
  simp [Bank.get, Bank.mapEach]

@[simp] theorem Bank.get_replicate {n : Nat} {α : Type} (a : α) (i : Fin n) : (Bank.replicate n a).get i = a := by
  simp [Bank.get, Bank.replicate]

@[simp] theorem Bank.set_get {n : Nat} {α : Type} (b : Bank n α) (i : Fin n) : b.set i (b.get i) = b :=
  Bank.ext_get fun j => by
    rw [Bank.get_set]
    split
    · next h => rw [h]
    · rfl

/-- A line after another line, or the same one, was written. -/
theorem State.line_setLine (s : State) (i j : LineId) (l : Line) :
    (s.setLine i l).line j = if i = j then l else s.line j := Bank.get_set _ _ _ _

/-- A rule after a rule was written. -/
theorem State.rule_setRule (s : State) (k j : RuleId) (r : Option FollowRule) :
    (s.setRule k r).rule j = if k = j then r else s.rule j := Bank.get_set _ _ _ _

end Sys2Proof.Machine
end

