-- ==== Sys2Proof/Laws/Frames.lean ====
section
/-! SUPPORT. What each shared operation of the blocks leaves alone: one lemma per field, cited by simp, so that no later
proof unfolds the operation. -/

namespace Sys2Proof.Machine

/-- A projection that each step of a fold keeps is kept by the fold. -/
theorem foldl_keeps {α β γ : Type} (p : β → γ) (f : β → α → β) (h : ∀ b a, p (f b a) = p b) (l : List α)
    (b : β) : p (l.foldl f b) = p b := by
  induction l generalizing b with
  | nil => rfl
  | cons a l ih => rw [List.foldl_cons, ih, h]

@[simp] theorem State.raiseIf_timebase (s : State) (c : Bool) (b : NoticeBody) :
    (s.raiseIf c b).timebase = s.timebase := by
  unfold State.raiseIf; split <;> simp
@[simp] theorem State.raiseIf_lines (s : State) (c : Bool) (b : NoticeBody) : (s.raiseIf c b).lines = s.lines := by
  unfold State.raiseIf; split <;> simp
@[simp] theorem State.raiseIf_qualifiers (s : State) (c : Bool) (b : NoticeBody) :
    (s.raiseIf c b).qualifiers = s.qualifiers := by
  unfold State.raiseIf; split <;> simp
@[simp] theorem State.raiseIf_queue (s : State) (c : Bool) (b : NoticeBody) : (s.raiseIf c b).queue = s.queue := by
  unfold State.raiseIf; split <;> simp
@[simp] theorem State.raiseIf_agenda (s : State) (c : Bool) (b : NoticeBody) : (s.raiseIf c b).agenda = s.agenda := by
  unfold State.raiseIf; split <;> simp
@[simp] theorem State.raiseIf_rules (s : State) (c : Bool) (b : NoticeBody) : (s.raiseIf c b).rules = s.rules := by
  unfold State.raiseIf; split <;> simp
@[simp] theorem State.raiseIf_link (s : State) (c : Bool) (b : NoticeBody) : (s.raiseIf c b).link = s.link := by
  unfold State.raiseIf; split <;> simp
@[simp] theorem State.raiseIf_power (s : State) (c : Bool) (b : NoticeBody) : (s.raiseIf c b).power = s.power := by
  unfold State.raiseIf; split <;> simp
@[simp] theorem State.raiseIf_inputs (s : State) (c : Bool) (b : NoticeBody) : (s.raiseIf c b).inputs = s.inputs := by
  unfold State.raiseIf; split <;> simp
@[simp] theorem State.raiseIf_freeCount (s : State) (c : Bool) (b : NoticeBody) :
    (s.raiseIf c b).freeCount = s.freeCount := by
  unfold State.raiseIf; split <;> simp
@[simp] theorem State.raiseIf_pending (s : State) (c : Bool) (b : NoticeBody) :
    (s.raiseIf c b).pending = s.pending := by
  unfold State.raiseIf; split <;> simp
@[simp] theorem State.awaitTest_timebase (s : State) (ev : AwaitEvent) : (s.awaitTest ev).timebase = s.timebase := by
  unfold State.awaitTest; (repeat' split) <;> rfl
@[simp] theorem State.awaitTest_lines (s : State) (ev : AwaitEvent) : (s.awaitTest ev).lines = s.lines := by
  unfold State.awaitTest; (repeat' split) <;> rfl
@[simp] theorem State.awaitTest_qualifiers (s : State) (ev : AwaitEvent) :
    (s.awaitTest ev).qualifiers = s.qualifiers := by
  unfold State.awaitTest; (repeat' split) <;> rfl
@[simp] theorem State.awaitTest_queue (s : State) (ev : AwaitEvent) : (s.awaitTest ev).queue = s.queue := by
  unfold State.awaitTest; (repeat' split) <;> rfl
@[simp] theorem State.awaitTest_agenda (s : State) (ev : AwaitEvent) : (s.awaitTest ev).agenda = s.agenda := by
  unfold State.awaitTest; (repeat' split) <;> rfl
@[simp] theorem State.awaitTest_rules (s : State) (ev : AwaitEvent) : (s.awaitTest ev).rules = s.rules := by
  unfold State.awaitTest; (repeat' split) <;> rfl
@[simp] theorem State.awaitTest_notices (s : State) (ev : AwaitEvent) : (s.awaitTest ev).notices = s.notices := by
  unfold State.awaitTest; (repeat' split) <;> rfl
@[simp] theorem State.awaitTest_power (s : State) (ev : AwaitEvent) : (s.awaitTest ev).power = s.power := by
  unfold State.awaitTest; (repeat' split) <;> rfl
@[simp] theorem State.awaitTest_inputs (s : State) (ev : AwaitEvent) : (s.awaitTest ev).inputs = s.inputs := by
  unfold State.awaitTest; (repeat' split) <;> rfl
@[simp] theorem State.awaitTest_freeCount (s : State) (ev : AwaitEvent) :
    (s.awaitTest ev).freeCount = s.freeCount := by
  unfold State.awaitTest; (repeat' split) <;> rfl
@[simp] theorem State.awaitTest_pending (s : State) (ev : AwaitEvent) : (s.awaitTest ev).pending = s.pending := by
  unfold State.awaitTest; (repeat' split) <;> rfl
@[simp] theorem State.beginFrame_timebase (s : State) (f : TxFrame) : (s.beginFrame f).timebase = s.timebase := by
  cases f <;> rfl
@[simp] theorem State.beginFrame_lines (s : State) (f : TxFrame) : (s.beginFrame f).lines = s.lines := by
  cases f <;> rfl
@[simp] theorem State.beginFrame_qualifiers (s : State) (f : TxFrame) :
    (s.beginFrame f).qualifiers = s.qualifiers := by
  cases f <;> rfl
@[simp] theorem State.beginFrame_queue (s : State) (f : TxFrame) : (s.beginFrame f).queue = s.queue := by
  cases f <;> rfl
@[simp] theorem State.beginFrame_agenda (s : State) (f : TxFrame) : (s.beginFrame f).agenda = s.agenda := by
  cases f <;> rfl
@[simp] theorem State.beginFrame_rules (s : State) (f : TxFrame) : (s.beginFrame f).rules = s.rules := by
  cases f <;> rfl
@[simp] theorem State.beginFrame_power (s : State) (f : TxFrame) : (s.beginFrame f).power = s.power := by
  cases f <;> rfl
@[simp] theorem State.beginFrame_inputs (s : State) (f : TxFrame) : (s.beginFrame f).inputs = s.inputs := by
  cases f <;> rfl
@[simp] theorem State.beginFrame_freeCount (s : State) (f : TxFrame) : (s.beginFrame f).freeCount = s.freeCount := by
  cases f <;> rfl
@[simp] theorem State.beginFrame_pending (s : State) (f : TxFrame) : (s.beginFrame f).pending = s.pending := by
  cases f <;> rfl
@[simp] theorem State.transmit_timebase (s : State) : s.transmit.timebase = s.timebase := by
  unfold State.transmit; split <;> simp
@[simp] theorem State.transmit_lines (s : State) : s.transmit.lines = s.lines := by
  unfold State.transmit; split <;> simp
@[simp] theorem State.transmit_qualifiers (s : State) : s.transmit.qualifiers = s.qualifiers := by
  unfold State.transmit; split <;> simp
@[simp] theorem State.transmit_queue (s : State) : s.transmit.queue = s.queue := by
  unfold State.transmit; split <;> simp
@[simp] theorem State.transmit_agenda (s : State) : s.transmit.agenda = s.agenda := by
  unfold State.transmit; split <;> simp
@[simp] theorem State.transmit_rules (s : State) : s.transmit.rules = s.rules := by
  unfold State.transmit; split <;> simp
@[simp] theorem State.transmit_power (s : State) : s.transmit.power = s.power := by
  unfold State.transmit; split <;> simp
@[simp] theorem State.transmit_inputs (s : State) : s.transmit.inputs = s.inputs := by
  unfold State.transmit; split <;> simp
@[simp] theorem State.transmit_freeCount (s : State) : s.transmit.freeCount = s.freeCount := by
  unfold State.transmit; split <;> simp
@[simp] theorem State.transmit_pending (s : State) : s.transmit.pending = s.pending := by
  unfold State.transmit; split <;> simp

/-! ## Patterns -/

@[simp] theorem State.clipNotice_timebase (s : State) (i : LineId) : (s.clipNotice i).timebase = s.timebase := by
  simp [State.clipNotice]
@[simp] theorem State.clipNotice_lines (s : State) (i : LineId) : (s.clipNotice i).lines = s.lines := by
  simp [State.clipNotice]
@[simp] theorem State.clipNotice_qualifiers (s : State) (i : LineId) :
    (s.clipNotice i).qualifiers = s.qualifiers := by
  simp [State.clipNotice]
@[simp] theorem State.clipNotice_queue (s : State) (i : LineId) : (s.clipNotice i).queue = s.queue := by
  simp [State.clipNotice]
@[simp] theorem State.clipNotice_agenda (s : State) (i : LineId) : (s.clipNotice i).agenda = s.agenda := by
  simp [State.clipNotice]
@[simp] theorem State.clipNotice_rules (s : State) (i : LineId) : (s.clipNotice i).rules = s.rules := by
  simp [State.clipNotice]
@[simp] theorem State.clipNotice_link (s : State) (i : LineId) : (s.clipNotice i).link = s.link := by
  simp [State.clipNotice]
@[simp] theorem State.clipNotice_power (s : State) (i : LineId) : (s.clipNotice i).power = s.power := by
  simp [State.clipNotice]
@[simp] theorem State.clipNotice_inputs (s : State) (i : LineId) : (s.clipNotice i).inputs = s.inputs := by
  simp [State.clipNotice]
@[simp] theorem State.clipNotice_freeCount (s : State) (i : LineId) : (s.clipNotice i).freeCount = s.freeCount := by
  simp [State.clipNotice]
@[simp] theorem State.clipNotice_pending (s : State) (i : LineId) : (s.clipNotice i).pending = s.pending := by
  simp [State.clipNotice]
@[simp] theorem State.takeOver_timebase (s : State) (i : LineId) : (s.takeOver i).timebase = s.timebase := by
  unfold State.takeOver; split <;> simp
@[simp] theorem State.takeOver_qualifiers (s : State) (i : LineId) : (s.takeOver i).qualifiers = s.qualifiers := by
  unfold State.takeOver; split <;> simp
@[simp] theorem State.takeOver_queue (s : State) (i : LineId) : (s.takeOver i).queue = s.queue := by
  unfold State.takeOver; split <;> simp
@[simp] theorem State.takeOver_agenda (s : State) (i : LineId) : (s.takeOver i).agenda = s.agenda := by
  unfold State.takeOver; split <;> simp
@[simp] theorem State.takeOver_rules (s : State) (i : LineId) : (s.takeOver i).rules = s.rules := by
  unfold State.takeOver; split <;> simp
@[simp] theorem State.takeOver_link (s : State) (i : LineId) : (s.takeOver i).link = s.link := by
  unfold State.takeOver; split <;> simp
@[simp] theorem State.takeOver_power (s : State) (i : LineId) : (s.takeOver i).power = s.power := by
  unfold State.takeOver; split <;> simp
@[simp] theorem State.takeOver_inputs (s : State) (i : LineId) : (s.takeOver i).inputs = s.inputs := by
  unfold State.takeOver; split <;> simp
@[simp] theorem State.takeOver_freeCount (s : State) (i : LineId) : (s.takeOver i).freeCount = s.freeCount := by
  unfold State.takeOver; split <;> simp
@[simp] theorem State.takeOver_pending (s : State) (i : LineId) : (s.takeOver i).pending = s.pending := by
  unfold State.takeOver; split <;> simp
@[simp] theorem State.boundaryAct_timebase (s : State) (i : LineId) : (s.boundaryAct i).timebase = s.timebase := by
  unfold State.boundaryAct; split <;> simp
@[simp] theorem State.boundaryAct_qualifiers (s : State) (i : LineId) :
    (s.boundaryAct i).qualifiers = s.qualifiers := by
  unfold State.boundaryAct; split <;> simp
@[simp] theorem State.boundaryAct_queue (s : State) (i : LineId) : (s.boundaryAct i).queue = s.queue := by
  unfold State.boundaryAct; split <;> simp
@[simp] theorem State.boundaryAct_agenda (s : State) (i : LineId) : (s.boundaryAct i).agenda = s.agenda := by
  unfold State.boundaryAct; split <;> simp
@[simp] theorem State.boundaryAct_rules (s : State) (i : LineId) : (s.boundaryAct i).rules = s.rules := by
  unfold State.boundaryAct; split <;> simp
@[simp] theorem State.boundaryAct_notices (s : State) (i : LineId) : (s.boundaryAct i).notices = s.notices := by
  unfold State.boundaryAct; split <;> simp
@[simp] theorem State.boundaryAct_link (s : State) (i : LineId) : (s.boundaryAct i).link = s.link := by
  unfold State.boundaryAct; split <;> simp
@[simp] theorem State.boundaryAct_power (s : State) (i : LineId) : (s.boundaryAct i).power = s.power := by
  unfold State.boundaryAct; split <;> simp
@[simp] theorem State.boundaryAct_inputs (s : State) (i : LineId) : (s.boundaryAct i).inputs = s.inputs := by
  unfold State.boundaryAct; split <;> simp
@[simp] theorem State.boundaryAct_freeCount (s : State) (i : LineId) : (s.boundaryAct i).freeCount = s.freeCount := by
  unfold State.boundaryAct; split <;> simp
@[simp] theorem State.boundaryAct_pending (s : State) (i : LineId) : (s.boundaryAct i).pending = s.pending := by
  unfold State.boundaryAct; split <;> simp
@[simp] theorem State.boundaryStep_timebase (s : State) (b : Bool) (i : LineId) :
    (s.boundaryStep b i).timebase = s.timebase := by
  unfold State.boundaryStep; split <;> [(simp; split <;> simp); rfl]
@[simp] theorem State.boundaryStep_qualifiers (s : State) (b : Bool) (i : LineId) :
    (s.boundaryStep b i).qualifiers = s.qualifiers := by
  unfold State.boundaryStep; split <;> [(simp; split <;> simp); rfl]
@[simp] theorem State.boundaryStep_queue (s : State) (b : Bool) (i : LineId) :
    (s.boundaryStep b i).queue = s.queue := by
  unfold State.boundaryStep; split <;> [(simp; split <;> simp); rfl]
@[simp] theorem State.boundaryStep_agenda (s : State) (b : Bool) (i : LineId) :
    (s.boundaryStep b i).agenda = s.agenda := by
  unfold State.boundaryStep; split <;> [(simp; split <;> simp); rfl]
@[simp] theorem State.boundaryStep_rules (s : State) (b : Bool) (i : LineId) :
    (s.boundaryStep b i).rules = s.rules := by
  unfold State.boundaryStep; split <;> [(simp; split <;> simp); rfl]
@[simp] theorem State.boundaryStep_link (s : State) (b : Bool) (i : LineId) : (s.boundaryStep b i).link = s.link := by
  unfold State.boundaryStep; split <;> [(simp; split <;> simp); rfl]
@[simp] theorem State.boundaryStep_power (s : State) (b : Bool) (i : LineId) :
    (s.boundaryStep b i).power = s.power := by
  unfold State.boundaryStep; split <;> [(simp; split <;> simp); rfl]
@[simp] theorem State.boundaryStep_inputs (s : State) (b : Bool) (i : LineId) :
    (s.boundaryStep b i).inputs = s.inputs := by
  unfold State.boundaryStep; split <;> [(simp; split <;> simp); rfl]
@[simp] theorem State.boundaryStep_freeCount (s : State) (b : Bool) (i : LineId) :
    (s.boundaryStep b i).freeCount = s.freeCount := by
  unfold State.boundaryStep; split <;> [(simp; split <;> simp); rfl]
@[simp] theorem State.boundaryStep_pending (s : State) (b : Bool) (i : LineId) :
    (s.boundaryStep b i).pending = s.pending := by
  unfold State.boundaryStep; split <;> [(simp; split <;> simp); rfl]
@[simp] theorem State.patternEdge_timebase (s : State) (i : LineId) : (s.patternEdge i).timebase = s.timebase := by
  unfold State.patternEdge; (repeat' split) <;> rfl
@[simp] theorem State.patternEdge_qualifiers (s : State) (i : LineId) :
    (s.patternEdge i).qualifiers = s.qualifiers := by
  unfold State.patternEdge; (repeat' split) <;> rfl
@[simp] theorem State.patternEdge_queue (s : State) (i : LineId) : (s.patternEdge i).queue = s.queue := by
  unfold State.patternEdge; (repeat' split) <;> rfl
@[simp] theorem State.patternEdge_agenda (s : State) (i : LineId) : (s.patternEdge i).agenda = s.agenda := by
  unfold State.patternEdge; (repeat' split) <;> rfl
@[simp] theorem State.patternEdge_rules (s : State) (i : LineId) : (s.patternEdge i).rules = s.rules := by
  unfold State.patternEdge; (repeat' split) <;> rfl
@[simp] theorem State.patternEdge_notices (s : State) (i : LineId) : (s.patternEdge i).notices = s.notices := by
  unfold State.patternEdge; (repeat' split) <;> rfl
@[simp] theorem State.patternEdge_link (s : State) (i : LineId) : (s.patternEdge i).link = s.link := by
  unfold State.patternEdge; (repeat' split) <;> rfl
@[simp] theorem State.patternEdge_power (s : State) (i : LineId) : (s.patternEdge i).power = s.power := by
  unfold State.patternEdge; (repeat' split) <;> rfl
@[simp] theorem State.patternEdge_inputs (s : State) (i : LineId) : (s.patternEdge i).inputs = s.inputs := by
  unfold State.patternEdge; (repeat' split) <;> rfl
@[simp] theorem State.patternEdge_freeCount (s : State) (i : LineId) : (s.patternEdge i).freeCount = s.freeCount := by
  unfold State.patternEdge; (repeat' split) <;> rfl
@[simp] theorem State.patternEdge_pending (s : State) (i : LineId) : (s.patternEdge i).pending = s.pending := by
  unfold State.patternEdge; (repeat' split) <;> rfl
@[simp] theorem State.patternStep_timebase (s : State) (b c : Bool) (i : LineId) :
    (s.patternStep b c i).timebase = s.timebase := by
  unfold State.patternStep; split <;> simp
@[simp] theorem State.patternStep_qualifiers (s : State) (b c : Bool) (i : LineId) :
    (s.patternStep b c i).qualifiers = s.qualifiers := by
  unfold State.patternStep; split <;> simp
@[simp] theorem State.patternStep_queue (s : State) (b c : Bool) (i : LineId) :
    (s.patternStep b c i).queue = s.queue := by
  unfold State.patternStep; split <;> simp
@[simp] theorem State.patternStep_agenda (s : State) (b c : Bool) (i : LineId) :
    (s.patternStep b c i).agenda = s.agenda := by
  unfold State.patternStep; split <;> simp
@[simp] theorem State.patternStep_rules (s : State) (b c : Bool) (i : LineId) :
    (s.patternStep b c i).rules = s.rules := by
  unfold State.patternStep; split <;> simp
@[simp] theorem State.patternStep_link (s : State) (b c : Bool) (i : LineId) :
    (s.patternStep b c i).link = s.link := by
  unfold State.patternStep; split <;> simp
@[simp] theorem State.patternStep_power (s : State) (b c : Bool) (i : LineId) :
    (s.patternStep b c i).power = s.power := by
  unfold State.patternStep; split <;> simp
@[simp] theorem State.patternStep_inputs (s : State) (b c : Bool) (i : LineId) :
    (s.patternStep b c i).inputs = s.inputs := by
  unfold State.patternStep; split <;> simp
@[simp] theorem State.patternStep_freeCount (s : State) (b c : Bool) (i : LineId) :
    (s.patternStep b c i).freeCount = s.freeCount := by
  unfold State.patternStep; split <;> simp
@[simp] theorem State.patternStep_pending (s : State) (b c : Bool) (i : LineId) :
    (s.patternStep b c i).pending = s.pending := by
  unfold State.patternStep; split <;> simp
@[simp] theorem State.patternSteps_timebase (s : State) (b c : Bool) :
    (s.patternSteps b c).timebase = s.timebase := by
  unfold State.patternSteps; exact foldl_keeps State.timebase _ (fun _ _ => by simp) _ _
@[simp] theorem State.patternSteps_qualifiers (s : State) (b c : Bool) :
    (s.patternSteps b c).qualifiers = s.qualifiers := by
  unfold State.patternSteps; exact foldl_keeps State.qualifiers _ (fun _ _ => by simp) _ _
@[simp] theorem State.patternSteps_queue (s : State) (b c : Bool) : (s.patternSteps b c).queue = s.queue := by
  unfold State.patternSteps; exact foldl_keeps State.queue _ (fun _ _ => by simp) _ _
@[simp] theorem State.patternSteps_agenda (s : State) (b c : Bool) : (s.patternSteps b c).agenda = s.agenda := by
  unfold State.patternSteps; exact foldl_keeps State.agenda _ (fun _ _ => by simp) _ _
@[simp] theorem State.patternSteps_rules (s : State) (b c : Bool) : (s.patternSteps b c).rules = s.rules := by
  unfold State.patternSteps; exact foldl_keeps State.rules _ (fun _ _ => by simp) _ _
@[simp] theorem State.patternSteps_link (s : State) (b c : Bool) : (s.patternSteps b c).link = s.link := by
  unfold State.patternSteps; exact foldl_keeps State.link _ (fun _ _ => by simp) _ _
@[simp] theorem State.patternSteps_power (s : State) (b c : Bool) : (s.patternSteps b c).power = s.power := by
  unfold State.patternSteps; exact foldl_keeps State.power _ (fun _ _ => by simp) _ _
@[simp] theorem State.patternSteps_inputs (s : State) (b c : Bool) : (s.patternSteps b c).inputs = s.inputs := by
  unfold State.patternSteps; exact foldl_keeps State.inputs _ (fun _ _ => by simp) _ _
@[simp] theorem State.patternSteps_freeCount (s : State) (b c : Bool) :
    (s.patternSteps b c).freeCount = s.freeCount := by
  unfold State.patternSteps; exact foldl_keeps State.freeCount _ (fun _ _ => by simp) _ _
@[simp] theorem State.patternSteps_pending (s : State) (b c : Bool) : (s.patternSteps b c).pending = s.pending := by
  unfold State.patternSteps; exact foldl_keeps State.pending _ (fun _ _ => by simp) _ _

/-! ## Timebase -/

@[simp] theorem State.enterHold_queue (s : State) (r : HoldReasons) : (s.enterHold r).queue = s.queue := by
  unfold State.enterHold; split <;> simp
@[simp] theorem State.enterHold_agenda (s : State) (r : HoldReasons) : (s.enterHold r).agenda = s.agenda := by
  unfold State.enterHold; split <;> simp
@[simp] theorem State.enterHold_rules (s : State) (r : HoldReasons) : (s.enterHold r).rules = s.rules := by
  unfold State.enterHold; split <;> simp
@[simp] theorem State.enterHold_link (s : State) (r : HoldReasons) : (s.enterHold r).link = s.link := by
  unfold State.enterHold; split <;> simp
@[simp] theorem State.enterHold_power (s : State) (r : HoldReasons) : (s.enterHold r).power = s.power := by
  unfold State.enterHold; split <;> simp
@[simp] theorem State.enterHold_inputs (s : State) (r : HoldReasons) : (s.enterHold r).inputs = s.inputs := by
  unfold State.enterHold; split <;> simp
@[simp] theorem State.enterHold_freeCount (s : State) (r : HoldReasons) :
    (s.enterHold r).freeCount = s.freeCount := by
  unfold State.enterHold; split <;> simp
@[simp] theorem State.enterHold_pending (s : State) (r : HoldReasons) : (s.enterHold r).pending = s.pending := by
  unfold State.enterHold; split <;> simp
@[simp] theorem State.leaveHold_queue (s : State) : s.leaveHold.queue = s.queue := by
  unfold State.leaveHold; simp; split <;> simp
@[simp] theorem State.leaveHold_agenda (s : State) : s.leaveHold.agenda = s.agenda := by
  unfold State.leaveHold; simp; split <;> simp
@[simp] theorem State.leaveHold_rules (s : State) : s.leaveHold.rules = s.rules := by
  unfold State.leaveHold; simp; split <;> simp
@[simp] theorem State.leaveHold_power (s : State) : s.leaveHold.power = s.power := by
  unfold State.leaveHold; simp; split <;> simp
@[simp] theorem State.leaveHold_inputs (s : State) : s.leaveHold.inputs = s.inputs := by
  unfold State.leaveHold; simp; split <;> simp
@[simp] theorem State.leaveHold_freeCount (s : State) : s.leaveHold.freeCount = s.freeCount := by
  unfold State.leaveHold; simp; split <;> simp
@[simp] theorem State.leaveHold_pending (s : State) : s.leaveHold.pending = s.pending := by
  unfold State.leaveHold; simp; split <;> simp
@[simp] theorem State.changeReasons_queue (s : State) (r : HoldReasons) : (s.changeReasons r).queue = s.queue := by
  unfold State.changeReasons; split <;> simp
@[simp] theorem State.changeReasons_agenda (s : State) (r : HoldReasons) : (s.changeReasons r).agenda = s.agenda := by
  unfold State.changeReasons; split <;> simp
@[simp] theorem State.changeReasons_rules (s : State) (r : HoldReasons) : (s.changeReasons r).rules = s.rules := by
  unfold State.changeReasons; split <;> simp
@[simp] theorem State.changeReasons_power (s : State) (r : HoldReasons) : (s.changeReasons r).power = s.power := by
  unfold State.changeReasons; split <;> simp
@[simp] theorem State.changeReasons_inputs (s : State) (r : HoldReasons) : (s.changeReasons r).inputs = s.inputs := by
  unfold State.changeReasons; split <;> simp
@[simp] theorem State.changeReasons_freeCount (s : State) (r : HoldReasons) :
    (s.changeReasons r).freeCount = s.freeCount := by
  unfold State.changeReasons; split <;> simp
@[simp] theorem State.changeReasons_pending (s : State) (r : HoldReasons) :
    (s.changeReasons r).pending = s.pending := by
  unfold State.changeReasons; split <;> simp
@[simp] theorem State.pinAsserted_queue (s : State) : s.pinAsserted.queue = s.queue := by simp [State.pinAsserted]
@[simp] theorem State.pinAsserted_agenda (s : State) : s.pinAsserted.agenda = s.agenda := by simp [State.pinAsserted]
@[simp] theorem State.pinAsserted_rules (s : State) : s.pinAsserted.rules = s.rules := by simp [State.pinAsserted]
@[simp] theorem State.pinAsserted_power (s : State) : s.pinAsserted.power = s.power := by simp [State.pinAsserted]
@[simp] theorem State.pinAsserted_inputs (s : State) : s.pinAsserted.inputs = s.inputs := by simp [State.pinAsserted]
@[simp] theorem State.pinAsserted_freeCount (s : State) : s.pinAsserted.freeCount = s.freeCount := by
  simp [State.pinAsserted]
@[simp] theorem State.pinAsserted_pending (s : State) : s.pinAsserted.pending = s.pending := by
  simp [State.pinAsserted]
@[simp] theorem State.pinReleased_queue (s : State) : s.pinReleased.queue = s.queue := by simp [State.pinReleased]
@[simp] theorem State.pinReleased_agenda (s : State) : s.pinReleased.agenda = s.agenda := by simp [State.pinReleased]
@[simp] theorem State.pinReleased_rules (s : State) : s.pinReleased.rules = s.rules := by simp [State.pinReleased]
@[simp] theorem State.pinReleased_power (s : State) : s.pinReleased.power = s.power := by simp [State.pinReleased]
@[simp] theorem State.pinReleased_inputs (s : State) : s.pinReleased.inputs = s.inputs := by simp [State.pinReleased]
@[simp] theorem State.pinReleased_freeCount (s : State) : s.pinReleased.freeCount = s.freeCount := by
  simp [State.pinReleased]
@[simp] theorem State.pinReleased_pending (s : State) : s.pinReleased.pending = s.pending := by
  simp [State.pinReleased]
@[simp] theorem State.zeroTime_lines (s : State) : s.zeroTime.lines = s.lines := by simp [State.zeroTime]
@[simp] theorem State.zeroTime_qualifiers (s : State) : s.zeroTime.qualifiers = s.qualifiers := by
  simp [State.zeroTime]
@[simp] theorem State.zeroTime_queue (s : State) : s.zeroTime.queue = s.queue := by simp [State.zeroTime]
@[simp] theorem State.zeroTime_agenda (s : State) : s.zeroTime.agenda = s.agenda := by simp [State.zeroTime]
@[simp] theorem State.zeroTime_rules (s : State) : s.zeroTime.rules = s.rules := by simp [State.zeroTime]
@[simp] theorem State.zeroTime_notices (s : State) : s.zeroTime.notices = s.notices := by simp [State.zeroTime]
@[simp] theorem State.zeroTime_power (s : State) : s.zeroTime.power = s.power := by simp [State.zeroTime]
@[simp] theorem State.zeroTime_inputs (s : State) : s.zeroTime.inputs = s.inputs := by simp [State.zeroTime]
@[simp] theorem State.zeroTime_freeCount (s : State) : s.zeroTime.freeCount = s.freeCount := by simp [State.zeroTime]
@[simp] theorem State.zeroTime_pending (s : State) : s.zeroTime.pending = s.pending := by simp [State.zeroTime]
@[simp] theorem State.enterStarted_lines (s : State) : s.enterStarted.lines = s.lines := by
  unfold State.enterStarted; split <;> simp
@[simp] theorem State.enterStarted_queue (s : State) : s.enterStarted.queue = s.queue := by
  unfold State.enterStarted; split <;> simp
@[simp] theorem State.enterStarted_agenda (s : State) : s.enterStarted.agenda = s.agenda := by
  unfold State.enterStarted; split <;> simp
@[simp] theorem State.enterStarted_rules (s : State) : s.enterStarted.rules = s.rules := by
  unfold State.enterStarted; split <;> simp
@[simp] theorem State.enterStarted_notices (s : State) : s.enterStarted.notices = s.notices := by
  unfold State.enterStarted; split <;> simp
@[simp] theorem State.enterStarted_link (s : State) : s.enterStarted.link = s.link := by
  unfold State.enterStarted; split <;> simp
@[simp] theorem State.enterStarted_power (s : State) : s.enterStarted.power = s.power := by
  unfold State.enterStarted; split <;> simp
@[simp] theorem State.enterStarted_inputs (s : State) : s.enterStarted.inputs = s.inputs := by
  unfold State.enterStarted; split <;> simp
@[simp] theorem State.enterStarted_freeCount (s : State) : s.enterStarted.freeCount = s.freeCount := by
  unfold State.enterStarted; split <;> simp
@[simp] theorem State.enterStarted_pending (s : State) : s.enterStarted.pending = s.pending := by
  unfold State.enterStarted; split <;> simp
@[simp] theorem State.stopTime_lines (s : State) : s.stopTime.lines = s.lines := by
  unfold State.stopTime; split <;> simp
@[simp] theorem State.stopTime_queue (s : State) : s.stopTime.queue = s.queue := by
  unfold State.stopTime; split <;> simp
@[simp] theorem State.stopTime_agenda (s : State) : s.stopTime.agenda = s.agenda := by
  unfold State.stopTime; split <;> simp
@[simp] theorem State.stopTime_rules (s : State) : s.stopTime.rules = s.rules := by
  unfold State.stopTime; split <;> simp
@[simp] theorem State.stopTime_notices (s : State) : s.stopTime.notices = s.notices := by
  unfold State.stopTime; split <;> simp
@[simp] theorem State.stopTime_link (s : State) : s.stopTime.link = s.link := by unfold State.stopTime; split <;> simp
@[simp] theorem State.stopTime_power (s : State) : s.stopTime.power = s.power := by
  unfold State.stopTime; split <;> simp
@[simp] theorem State.stopTime_inputs (s : State) : s.stopTime.inputs = s.inputs := by
  unfold State.stopTime; split <;> simp
@[simp] theorem State.stopTime_freeCount (s : State) : s.stopTime.freeCount = s.freeCount := by
  unfold State.stopTime; split <;> simp
@[simp] theorem State.stopTime_pending (s : State) : s.stopTime.pending = s.pending := by
  unfold State.stopTime; split <;> simp
@[simp] theorem State.lengthAtOnce_lines (s : State) (n : Nat) : (s.lengthAtOnce n).lines = s.lines := by
  unfold State.lengthAtOnce; split <;> simp [foldl_keeps State.lines State.clipNotice fun _ _ => by simp]
@[simp] theorem State.lengthAtOnce_qualifiers (s : State) (n : Nat) :
    (s.lengthAtOnce n).qualifiers = s.qualifiers := by
  unfold State.lengthAtOnce; split <;> simp [foldl_keeps State.qualifiers State.clipNotice fun _ _ => by simp]
@[simp] theorem State.lengthAtOnce_queue (s : State) (n : Nat) : (s.lengthAtOnce n).queue = s.queue := by
  unfold State.lengthAtOnce; split <;> simp [foldl_keeps State.queue State.clipNotice fun _ _ => by simp]
@[simp] theorem State.lengthAtOnce_agenda (s : State) (n : Nat) : (s.lengthAtOnce n).agenda = s.agenda := by
  unfold State.lengthAtOnce; split <;> simp [foldl_keeps State.agenda State.clipNotice fun _ _ => by simp]
@[simp] theorem State.lengthAtOnce_rules (s : State) (n : Nat) : (s.lengthAtOnce n).rules = s.rules := by
  unfold State.lengthAtOnce; split <;> simp [foldl_keeps State.rules State.clipNotice fun _ _ => by simp]
@[simp] theorem State.lengthAtOnce_link (s : State) (n : Nat) : (s.lengthAtOnce n).link = s.link := by
  unfold State.lengthAtOnce; split <;> simp [foldl_keeps State.link State.clipNotice fun _ _ => by simp]
@[simp] theorem State.lengthAtOnce_power (s : State) (n : Nat) : (s.lengthAtOnce n).power = s.power := by
  unfold State.lengthAtOnce; split <;> simp [foldl_keeps State.power State.clipNotice fun _ _ => by simp]
@[simp] theorem State.lengthAtOnce_inputs (s : State) (n : Nat) : (s.lengthAtOnce n).inputs = s.inputs := by
  unfold State.lengthAtOnce; split <;> simp [foldl_keeps State.inputs State.clipNotice fun _ _ => by simp]
@[simp] theorem State.lengthAtOnce_freeCount (s : State) (n : Nat) : (s.lengthAtOnce n).freeCount = s.freeCount := by
  unfold State.lengthAtOnce; split <;> simp [foldl_keeps State.freeCount State.clipNotice fun _ _ => by simp]
@[simp] theorem State.lengthAtOnce_pending (s : State) (n : Nat) : (s.lengthAtOnce n).pending = s.pending := by
  unfold State.lengthAtOnce; split <;> simp [foldl_keeps State.pending State.clipNotice fun _ _ => by simp]
@[simp] theorem State.setTimebase_lines (s : State) (p n : Nat) (g : Bool) :
    (s.setTimebase p n g).lines = s.lines := by
  unfold State.setTimebase; simp only []; split <;> simp
@[simp] theorem State.setTimebase_qualifiers (s : State) (p n : Nat) (g : Bool) :
    (s.setTimebase p n g).qualifiers = s.qualifiers := by
  unfold State.setTimebase; simp only []; split <;> simp
@[simp] theorem State.setTimebase_queue (s : State) (p n : Nat) (g : Bool) :
    (s.setTimebase p n g).queue = s.queue := by
  unfold State.setTimebase; simp only []; split <;> simp
@[simp] theorem State.setTimebase_agenda (s : State) (p n : Nat) (g : Bool) :
    (s.setTimebase p n g).agenda = s.agenda := by
  unfold State.setTimebase; simp only []; split <;> simp
@[simp] theorem State.setTimebase_rules (s : State) (p n : Nat) (g : Bool) :
    (s.setTimebase p n g).rules = s.rules := by
  unfold State.setTimebase; simp only []; split <;> simp
@[simp] theorem State.setTimebase_link (s : State) (p n : Nat) (g : Bool) : (s.setTimebase p n g).link = s.link := by
  unfold State.setTimebase; simp only []; split <;> simp
@[simp] theorem State.setTimebase_power (s : State) (p n : Nat) (g : Bool) :
    (s.setTimebase p n g).power = s.power := by
  unfold State.setTimebase; simp only []; split <;> simp
@[simp] theorem State.setTimebase_inputs (s : State) (p n : Nat) (g : Bool) :
    (s.setTimebase p n g).inputs = s.inputs := by
  unfold State.setTimebase; simp only []; split <;> simp
@[simp] theorem State.setTimebase_freeCount (s : State) (p n : Nat) (g : Bool) :
    (s.setTimebase p n g).freeCount = s.freeCount := by
  unfold State.setTimebase; simp only []; split <;> simp
@[simp] theorem State.setTimebase_pending (s : State) (p n : Nat) (g : Bool) :
    (s.setTimebase p n g).pending = s.pending := by
  unfold State.setTimebase; simp only []; split <;> simp

/-! ## Lines -/

@[simp] theorem State.removeLineEntries_timebase (s : State) (i : LineId) :
    (s.removeLineEntries i).timebase = s.timebase := by
  unfold State.removeLineEntries; simp only []; split <;> simp
@[simp] theorem State.removeLineEntries_lines (s : State) (i : LineId) : (s.removeLineEntries i).lines = s.lines := by
  unfold State.removeLineEntries; simp only []; split <;> simp
@[simp] theorem State.removeLineEntries_qualifiers (s : State) (i : LineId) :
    (s.removeLineEntries i).qualifiers = s.qualifiers := by
  unfold State.removeLineEntries; simp only []; split <;> simp
@[simp] theorem State.removeLineEntries_queue (s : State) (i : LineId) : (s.removeLineEntries i).queue = s.queue := by
  unfold State.removeLineEntries; simp only []; split <;> simp
@[simp] theorem State.removeLineEntries_rules (s : State) (i : LineId) : (s.removeLineEntries i).rules = s.rules := by
  unfold State.removeLineEntries; simp only []; split <;> simp
@[simp] theorem State.removeLineEntries_notices (s : State) (i : LineId) :
    (s.removeLineEntries i).notices = s.notices := by
  unfold State.removeLineEntries; simp only []; split <;> simp
@[simp] theorem State.removeLineEntries_power (s : State) (i : LineId) : (s.removeLineEntries i).power = s.power := by
  unfold State.removeLineEntries; simp only []; split <;> simp
@[simp] theorem State.removeLineEntries_inputs (s : State) (i : LineId) :
    (s.removeLineEntries i).inputs = s.inputs := by
  unfold State.removeLineEntries; simp only []; split <;> simp
@[simp] theorem State.removeLineEntries_freeCount (s : State) (i : LineId) :
    (s.removeLineEntries i).freeCount = s.freeCount := by
  unfold State.removeLineEntries; simp only []; split <;> simp
@[simp] theorem State.removeLineEntries_pending (s : State) (i : LineId) :
    (s.removeLineEntries i).pending = s.pending := by
  unfold State.removeLineEntries; simp only []; split <;> simp
@[simp] theorem State.reconfigure_timebase (s : State) (i : LineId) (m : LineMode) :
    (s.reconfigure i m).timebase = s.timebase := by
  simp [State.reconfigure]
@[simp] theorem State.reconfigure_queue (s : State) (i : LineId) (m : LineMode) :
    (s.reconfigure i m).queue = s.queue := by
  simp [State.reconfigure]
@[simp] theorem State.reconfigure_rules (s : State) (i : LineId) (m : LineMode) :
    (s.reconfigure i m).rules = s.rules := by
  simp [State.reconfigure]
@[simp] theorem State.reconfigure_notices (s : State) (i : LineId) (m : LineMode) :
    (s.reconfigure i m).notices = s.notices := by
  simp [State.reconfigure]
@[simp] theorem State.reconfigure_power (s : State) (i : LineId) (m : LineMode) :
    (s.reconfigure i m).power = s.power := by
  simp [State.reconfigure]
@[simp] theorem State.reconfigure_inputs (s : State) (i : LineId) (m : LineMode) :
    (s.reconfigure i m).inputs = s.inputs := by
  simp [State.reconfigure]
@[simp] theorem State.reconfigure_freeCount (s : State) (i : LineId) (m : LineMode) :
    (s.reconfigure i m).freeCount = s.freeCount := by
  simp [State.reconfigure]
@[simp] theorem State.reconfigure_pending (s : State) (i : LineId) (m : LineMode) :
    (s.reconfigure i m).pending = s.pending := by
  simp [State.reconfigure]

/-! ## Capture Queue -/

@[simp] theorem State.noteReady_timebase (s : State) : s.noteReady.timebase = s.timebase := by
  unfold State.noteReady; split <;> simp
@[simp] theorem State.noteReady_lines (s : State) : s.noteReady.lines = s.lines := by
  unfold State.noteReady; split <;> simp
@[simp] theorem State.noteReady_qualifiers (s : State) : s.noteReady.qualifiers = s.qualifiers := by
  unfold State.noteReady; split <;> simp
@[simp] theorem State.noteReady_agenda (s : State) : s.noteReady.agenda = s.agenda := by
  unfold State.noteReady; split <;> simp
@[simp] theorem State.noteReady_rules (s : State) : s.noteReady.rules = s.rules := by
  unfold State.noteReady; split <;> simp
@[simp] theorem State.noteReady_link (s : State) : s.noteReady.link = s.link := by
  unfold State.noteReady; split <;> simp
@[simp] theorem State.noteReady_power (s : State) : s.noteReady.power = s.power := by
  unfold State.noteReady; split <;> simp
@[simp] theorem State.noteReady_inputs (s : State) : s.noteReady.inputs = s.inputs := by
  unfold State.noteReady; split <;> simp
@[simp] theorem State.noteReady_freeCount (s : State) : s.noteReady.freeCount = s.freeCount := by
  unfold State.noteReady; split <;> simp
@[simp] theorem State.noteReady_pending (s : State) : s.noteReady.pending = s.pending := by
  unfold State.noteReady; split <;> simp
@[simp] theorem State.noteWatermark_timebase (s : State) : s.noteWatermark.timebase = s.timebase := by
  unfold State.noteWatermark; split <;> simp
@[simp] theorem State.noteWatermark_lines (s : State) : s.noteWatermark.lines = s.lines := by
  unfold State.noteWatermark; split <;> simp
@[simp] theorem State.noteWatermark_qualifiers (s : State) : s.noteWatermark.qualifiers = s.qualifiers := by
  unfold State.noteWatermark; split <;> simp
@[simp] theorem State.noteWatermark_agenda (s : State) : s.noteWatermark.agenda = s.agenda := by
  unfold State.noteWatermark; split <;> simp
@[simp] theorem State.noteWatermark_rules (s : State) : s.noteWatermark.rules = s.rules := by
  unfold State.noteWatermark; split <;> simp
@[simp] theorem State.noteWatermark_link (s : State) : s.noteWatermark.link = s.link := by
  unfold State.noteWatermark; split <;> simp
@[simp] theorem State.noteWatermark_power (s : State) : s.noteWatermark.power = s.power := by
  unfold State.noteWatermark; split <;> simp
@[simp] theorem State.noteWatermark_inputs (s : State) : s.noteWatermark.inputs = s.inputs := by
  unfold State.noteWatermark; split <;> simp
@[simp] theorem State.noteWatermark_freeCount (s : State) : s.noteWatermark.freeCount = s.freeCount := by
  unfold State.noteWatermark; split <;> simp
@[simp] theorem State.noteWatermark_pending (s : State) : s.noteWatermark.pending = s.pending := by
  unfold State.noteWatermark; split <;> simp
@[simp] theorem State.appendEntry_timebase (s : State) (e : Half → QueueEntry) :
    (s.appendEntry e).timebase = s.timebase := by
  simp [State.appendEntry]
@[simp] theorem State.appendEntry_lines (s : State) (e : Half → QueueEntry) : (s.appendEntry e).lines = s.lines := by
  simp [State.appendEntry]
@[simp] theorem State.appendEntry_qualifiers (s : State) (e : Half → QueueEntry) :
    (s.appendEntry e).qualifiers = s.qualifiers := by
  simp [State.appendEntry]
@[simp] theorem State.appendEntry_agenda (s : State) (e : Half → QueueEntry) :
    (s.appendEntry e).agenda = s.agenda := by
  simp [State.appendEntry]
@[simp] theorem State.appendEntry_rules (s : State) (e : Half → QueueEntry) : (s.appendEntry e).rules = s.rules := by
  simp [State.appendEntry]
@[simp] theorem State.appendEntry_power (s : State) (e : Half → QueueEntry) : (s.appendEntry e).power = s.power := by
  simp [State.appendEntry]
@[simp] theorem State.appendEntry_inputs (s : State) (e : Half → QueueEntry) :
    (s.appendEntry e).inputs = s.inputs := by
  simp [State.appendEntry]
@[simp] theorem State.appendEntry_freeCount (s : State) (e : Half → QueueEntry) :
    (s.appendEntry e).freeCount = s.freeCount := by
  simp [State.appendEntry]
@[simp] theorem State.appendEntry_pending (s : State) (e : Half → QueueEntry) :
    (s.appendEntry e).pending = s.pending := by
  simp [State.appendEntry]
@[simp] theorem State.loseCapture_timebase (s : State) (c : Capture) : (s.loseCapture c).timebase = s.timebase := by
  unfold State.loseCapture; split <;> simp
@[simp] theorem State.loseCapture_lines (s : State) (c : Capture) : (s.loseCapture c).lines = s.lines := by
  unfold State.loseCapture; split <;> simp
@[simp] theorem State.loseCapture_qualifiers (s : State) (c : Capture) :
    (s.loseCapture c).qualifiers = s.qualifiers := by
  unfold State.loseCapture; split <;> simp
@[simp] theorem State.loseCapture_agenda (s : State) (c : Capture) : (s.loseCapture c).agenda = s.agenda := by
  unfold State.loseCapture; split <;> simp
@[simp] theorem State.loseCapture_rules (s : State) (c : Capture) : (s.loseCapture c).rules = s.rules := by
  unfold State.loseCapture; split <;> simp
@[simp] theorem State.loseCapture_link (s : State) (c : Capture) : (s.loseCapture c).link = s.link := by
  unfold State.loseCapture; split <;> simp
@[simp] theorem State.loseCapture_power (s : State) (c : Capture) : (s.loseCapture c).power = s.power := by
  unfold State.loseCapture; split <;> simp
@[simp] theorem State.loseCapture_inputs (s : State) (c : Capture) : (s.loseCapture c).inputs = s.inputs := by
  unfold State.loseCapture; split <;> simp
@[simp] theorem State.loseCapture_freeCount (s : State) (c : Capture) :
    (s.loseCapture c).freeCount = s.freeCount := by
  unfold State.loseCapture; split <;> simp
@[simp] theorem State.loseCapture_pending (s : State) (c : Capture) : (s.loseCapture c).pending = s.pending := by
  unfold State.loseCapture; split <;> simp
@[simp] theorem State.takeCapture_timebase (s : State) (c : Capture) (l : List RuleId) :
    (s.takeCapture c l).timebase = s.timebase := by
  unfold State.takeCapture; split <;> simp
@[simp] theorem State.takeCapture_lines (s : State) (c : Capture) (l : List RuleId) :
    (s.takeCapture c l).lines = s.lines := by
  unfold State.takeCapture; split <;> simp
@[simp] theorem State.takeCapture_qualifiers (s : State) (c : Capture) (l : List RuleId) :
    (s.takeCapture c l).qualifiers = s.qualifiers := by
  unfold State.takeCapture; split <;> simp
@[simp] theorem State.takeCapture_agenda (s : State) (c : Capture) (l : List RuleId) :
    (s.takeCapture c l).agenda = s.agenda := by
  unfold State.takeCapture; split <;> simp
@[simp] theorem State.takeCapture_rules (s : State) (c : Capture) (l : List RuleId) :
    (s.takeCapture c l).rules = s.rules := by
  unfold State.takeCapture; split <;> simp
@[simp] theorem State.takeCapture_power (s : State) (c : Capture) (l : List RuleId) :
    (s.takeCapture c l).power = s.power := by
  unfold State.takeCapture; split <;> simp
@[simp] theorem State.takeCapture_inputs (s : State) (c : Capture) (l : List RuleId) :
    (s.takeCapture c l).inputs = s.inputs := by
  unfold State.takeCapture; split <;> simp
@[simp] theorem State.takeCapture_freeCount (s : State) (c : Capture) (l : List RuleId) :
    (s.takeCapture c l).freeCount = s.freeCount := by
  unfold State.takeCapture; split <;> simp
@[simp] theorem State.takeCapture_pending (s : State) (c : Capture) (l : List RuleId) :
    (s.takeCapture c l).pending = s.pending := by
  unfold State.takeCapture; split <;> simp
@[simp] theorem State.appendGap_timebase (s : State) : s.appendGap.timebase = s.timebase := by
  unfold State.appendGap; split <;> simp
@[simp] theorem State.appendGap_lines (s : State) : s.appendGap.lines = s.lines := by
  unfold State.appendGap; split <;> simp
@[simp] theorem State.appendGap_qualifiers (s : State) : s.appendGap.qualifiers = s.qualifiers := by
  unfold State.appendGap; split <;> simp
@[simp] theorem State.appendGap_agenda (s : State) : s.appendGap.agenda = s.agenda := by
  unfold State.appendGap; split <;> simp
@[simp] theorem State.appendGap_rules (s : State) : s.appendGap.rules = s.rules := by
  unfold State.appendGap; split <;> simp
@[simp] theorem State.appendGap_power (s : State) : s.appendGap.power = s.power := by
  unfold State.appendGap; split <;> simp
@[simp] theorem State.appendGap_inputs (s : State) : s.appendGap.inputs = s.inputs := by
  unfold State.appendGap; split <;> simp
@[simp] theorem State.appendGap_freeCount (s : State) : s.appendGap.freeCount = s.freeCount := by
  unfold State.appendGap; split <;> simp
@[simp] theorem State.appendGap_pending (s : State) : s.appendGap.pending = s.pending := by
  unfold State.appendGap; split <;> simp
@[simp] theorem State.releaseThrough_timebase (s : State) (p : Nat) : (s.releaseThrough p).timebase = s.timebase := by
  simp [State.releaseThrough]
@[simp] theorem State.releaseThrough_lines (s : State) (p : Nat) : (s.releaseThrough p).lines = s.lines := by
  simp [State.releaseThrough]
@[simp] theorem State.releaseThrough_qualifiers (s : State) (p : Nat) :
    (s.releaseThrough p).qualifiers = s.qualifiers := by
  simp [State.releaseThrough]
@[simp] theorem State.releaseThrough_agenda (s : State) (p : Nat) : (s.releaseThrough p).agenda = s.agenda := by
  simp [State.releaseThrough]
@[simp] theorem State.releaseThrough_rules (s : State) (p : Nat) : (s.releaseThrough p).rules = s.rules := by
  simp [State.releaseThrough]
@[simp] theorem State.releaseThrough_power (s : State) (p : Nat) : (s.releaseThrough p).power = s.power := by
  simp [State.releaseThrough]
@[simp] theorem State.releaseThrough_inputs (s : State) (p : Nat) : (s.releaseThrough p).inputs = s.inputs := by
  simp [State.releaseThrough]
@[simp] theorem State.releaseThrough_freeCount (s : State) (p : Nat) :
    (s.releaseThrough p).freeCount = s.freeCount := by
  simp [State.releaseThrough]
@[simp] theorem State.releaseThrough_pending (s : State) (p : Nat) : (s.releaseThrough p).pending = s.pending := by
  simp [State.releaseThrough]

/-! ## Edge Agenda -/

@[simp] theorem State.dropEntry_timebase (s : State) (e : AgendaEntry) : (s.dropEntry e).timebase = s.timebase := by
  simp [State.dropEntry]
@[simp] theorem State.dropEntry_lines (s : State) (e : AgendaEntry) : (s.dropEntry e).lines = s.lines := by
  simp [State.dropEntry]
@[simp] theorem State.dropEntry_qualifiers (s : State) (e : AgendaEntry) :
    (s.dropEntry e).qualifiers = s.qualifiers := by
  simp [State.dropEntry]
@[simp] theorem State.dropEntry_queue (s : State) (e : AgendaEntry) : (s.dropEntry e).queue = s.queue := by
  simp [State.dropEntry]
@[simp] theorem State.dropEntry_rules (s : State) (e : AgendaEntry) : (s.dropEntry e).rules = s.rules := by
  simp [State.dropEntry]
@[simp] theorem State.dropEntry_notices (s : State) (e : AgendaEntry) : (s.dropEntry e).notices = s.notices := by
  simp [State.dropEntry]
@[simp] theorem State.dropEntry_power (s : State) (e : AgendaEntry) : (s.dropEntry e).power = s.power := by
  simp [State.dropEntry]
@[simp] theorem State.dropEntry_inputs (s : State) (e : AgendaEntry) : (s.dropEntry e).inputs = s.inputs := by
  simp [State.dropEntry]
@[simp] theorem State.dropEntry_freeCount (s : State) (e : AgendaEntry) :
    (s.dropEntry e).freeCount = s.freeCount := by
  simp [State.dropEntry]
@[simp] theorem State.dropEntry_pending (s : State) (e : AgendaEntry) : (s.dropEntry e).pending = s.pending := by
  simp [State.dropEntry]
@[simp] theorem State.edgeDone_timebase (s : State) (e : AgendaEntry) (p : Phase) :
    (s.edgeDone e p).timebase = s.timebase := by
  simp [State.edgeDone]
@[simp] theorem State.edgeDone_lines (s : State) (e : AgendaEntry) (p : Phase) :
    (s.edgeDone e p).lines = s.lines := by
  simp [State.edgeDone]
@[simp] theorem State.edgeDone_qualifiers (s : State) (e : AgendaEntry) (p : Phase) :
    (s.edgeDone e p).qualifiers = s.qualifiers := by
  simp [State.edgeDone]
@[simp] theorem State.edgeDone_queue (s : State) (e : AgendaEntry) (p : Phase) :
    (s.edgeDone e p).queue = s.queue := by
  simp [State.edgeDone]
@[simp] theorem State.edgeDone_agenda (s : State) (e : AgendaEntry) (p : Phase) :
    (s.edgeDone e p).agenda = s.agenda := by
  simp [State.edgeDone]
@[simp] theorem State.edgeDone_rules (s : State) (e : AgendaEntry) (p : Phase) :
    (s.edgeDone e p).rules = s.rules := by
  simp [State.edgeDone]
@[simp] theorem State.edgeDone_link (s : State) (e : AgendaEntry) (p : Phase) : (s.edgeDone e p).link = s.link := by
  simp [State.edgeDone]
@[simp] theorem State.edgeDone_power (s : State) (e : AgendaEntry) (p : Phase) :
    (s.edgeDone e p).power = s.power := by
  simp [State.edgeDone]
@[simp] theorem State.edgeDone_inputs (s : State) (e : AgendaEntry) (p : Phase) :
    (s.edgeDone e p).inputs = s.inputs := by
  simp [State.edgeDone]
@[simp] theorem State.edgeDone_freeCount (s : State) (e : AgendaEntry) (p : Phase) :
    (s.edgeDone e p).freeCount = s.freeCount := by
  simp [State.edgeDone]
@[simp] theorem State.edgeDone_pending (s : State) (e : AgendaEntry) (p : Phase) :
    (s.edgeDone e p).pending = s.pending := by
  simp [State.edgeDone]
@[simp] theorem State.expireSingle_timebase (s : State) (e : AgendaEntry) :
    (s.expireSingle e).timebase = s.timebase := by
  simp [State.expireSingle]
@[simp] theorem State.expireSingle_qualifiers (s : State) (e : AgendaEntry) :
    (s.expireSingle e).qualifiers = s.qualifiers := by
  simp [State.expireSingle]
@[simp] theorem State.expireSingle_queue (s : State) (e : AgendaEntry) : (s.expireSingle e).queue = s.queue := by
  simp [State.expireSingle]
@[simp] theorem State.expireSingle_rules (s : State) (e : AgendaEntry) : (s.expireSingle e).rules = s.rules := by
  simp [State.expireSingle]
@[simp] theorem State.expireSingle_power (s : State) (e : AgendaEntry) : (s.expireSingle e).power = s.power := by
  simp [State.expireSingle]
@[simp] theorem State.expireSingle_inputs (s : State) (e : AgendaEntry) : (s.expireSingle e).inputs = s.inputs := by
  simp [State.expireSingle]
@[simp] theorem State.expireSingle_freeCount (s : State) (e : AgendaEntry) :
    (s.expireSingle e).freeCount = s.freeCount := by
  simp [State.expireSingle]
@[simp] theorem State.expireSingle_pending (s : State) (e : AgendaEntry) :
    (s.expireSingle e).pending = s.pending := by
  simp [State.expireSingle]
@[simp] theorem State.expireLead_timebase (s : State) (e : AgendaEntry) (w : Span) :
    (s.expireLead e w).timebase = s.timebase := by
  simp [State.expireLead]
@[simp] theorem State.expireLead_qualifiers (s : State) (e : AgendaEntry) (w : Span) :
    (s.expireLead e w).qualifiers = s.qualifiers := by
  simp [State.expireLead]
@[simp] theorem State.expireLead_queue (s : State) (e : AgendaEntry) (w : Span) :
    (s.expireLead e w).queue = s.queue := by
  simp [State.expireLead]
@[simp] theorem State.expireLead_rules (s : State) (e : AgendaEntry) (w : Span) :
    (s.expireLead e w).rules = s.rules := by
  simp [State.expireLead]
@[simp] theorem State.expireLead_link (s : State) (e : AgendaEntry) (w : Span) :
    (s.expireLead e w).link = s.link := by
  simp [State.expireLead]
@[simp] theorem State.expireLead_power (s : State) (e : AgendaEntry) (w : Span) :
    (s.expireLead e w).power = s.power := by
  simp [State.expireLead]
@[simp] theorem State.expireLead_inputs (s : State) (e : AgendaEntry) (w : Span) :
    (s.expireLead e w).inputs = s.inputs := by
  simp [State.expireLead]
@[simp] theorem State.expireLead_freeCount (s : State) (e : AgendaEntry) (w : Span) :
    (s.expireLead e w).freeCount = s.freeCount := by
  simp [State.expireLead]
@[simp] theorem State.expireLead_pending (s : State) (e : AgendaEntry) (w : Span) :
    (s.expireLead e w).pending = s.pending := by
  simp [State.expireLead]
@[simp] theorem State.expireTrail_timebase (s : State) (e : AgendaEntry) :
    (s.expireTrail e).timebase = s.timebase := by
  simp [State.expireTrail]
@[simp] theorem State.expireTrail_qualifiers (s : State) (e : AgendaEntry) :
    (s.expireTrail e).qualifiers = s.qualifiers := by
  simp [State.expireTrail]
@[simp] theorem State.expireTrail_queue (s : State) (e : AgendaEntry) : (s.expireTrail e).queue = s.queue := by
  simp [State.expireTrail]
@[simp] theorem State.expireTrail_rules (s : State) (e : AgendaEntry) : (s.expireTrail e).rules = s.rules := by
  simp [State.expireTrail]
@[simp] theorem State.expireTrail_power (s : State) (e : AgendaEntry) : (s.expireTrail e).power = s.power := by
  simp [State.expireTrail]
@[simp] theorem State.expireTrail_inputs (s : State) (e : AgendaEntry) : (s.expireTrail e).inputs = s.inputs := by
  simp [State.expireTrail]
@[simp] theorem State.expireTrail_freeCount (s : State) (e : AgendaEntry) :
    (s.expireTrail e).freeCount = s.freeCount := by
  simp [State.expireTrail]
@[simp] theorem State.expireTrail_pending (s : State) (e : AgendaEntry) : (s.expireTrail e).pending = s.pending := by
  simp [State.expireTrail]
@[simp] theorem State.expire_timebase (s : State) (e : AgendaEntry) : (s.expire e).timebase = s.timebase := by
  unfold State.expire; split <;> simp
@[simp] theorem State.expire_qualifiers (s : State) (e : AgendaEntry) : (s.expire e).qualifiers = s.qualifiers := by
  unfold State.expire; split <;> simp
@[simp] theorem State.expire_queue (s : State) (e : AgendaEntry) : (s.expire e).queue = s.queue := by
  unfold State.expire; split <;> simp
@[simp] theorem State.expire_rules (s : State) (e : AgendaEntry) : (s.expire e).rules = s.rules := by
  unfold State.expire; split <;> simp
@[simp] theorem State.expire_power (s : State) (e : AgendaEntry) : (s.expire e).power = s.power := by
  unfold State.expire; split <;> simp
@[simp] theorem State.expire_inputs (s : State) (e : AgendaEntry) : (s.expire e).inputs = s.inputs := by
  unfold State.expire; split <;> simp
@[simp] theorem State.expire_freeCount (s : State) (e : AgendaEntry) : (s.expire e).freeCount = s.freeCount := by
  unfold State.expire; split <;> simp
@[simp] theorem State.expire_pending (s : State) (e : AgendaEntry) : (s.expire e).pending = s.pending := by
  unfold State.expire; split <;> simp
@[simp] theorem State.expireDue_timebase (s : State) : s.expireDue.timebase = s.timebase := by
  unfold State.expireDue; exact foldl_keeps State.timebase _ (fun _ _ => by simp) _ _
@[simp] theorem State.expireDue_qualifiers (s : State) : s.expireDue.qualifiers = s.qualifiers := by
  unfold State.expireDue; exact foldl_keeps State.qualifiers _ (fun _ _ => by simp) _ _
@[simp] theorem State.expireDue_queue (s : State) : s.expireDue.queue = s.queue := by
  unfold State.expireDue; exact foldl_keeps State.queue _ (fun _ _ => by simp) _ _
@[simp] theorem State.expireDue_rules (s : State) : s.expireDue.rules = s.rules := by
  unfold State.expireDue; exact foldl_keeps State.rules _ (fun _ _ => by simp) _ _
@[simp] theorem State.expireDue_power (s : State) : s.expireDue.power = s.power := by
  unfold State.expireDue; exact foldl_keeps State.power _ (fun _ _ => by simp) _ _
@[simp] theorem State.expireDue_inputs (s : State) : s.expireDue.inputs = s.inputs := by
  unfold State.expireDue; exact foldl_keeps State.inputs _ (fun _ _ => by simp) _ _
@[simp] theorem State.expireDue_freeCount (s : State) : s.expireDue.freeCount = s.freeCount := by
  unfold State.expireDue; exact foldl_keeps State.freeCount _ (fun _ _ => by simp) _ _
@[simp] theorem State.expireDue_pending (s : State) : s.expireDue.pending = s.pending := by
  unfold State.expireDue; exact foldl_keeps State.pending _ (fun _ _ => by simp) _ _
@[simp] theorem State.fireLate_timebase (s : State) (o : Order) : (s.fireLate o).timebase = s.timebase := by
  unfold State.fireLate; simp only []; split <;> simp
@[simp] theorem State.fireLate_qualifiers (s : State) (o : Order) : (s.fireLate o).qualifiers = s.qualifiers := by
  unfold State.fireLate; simp only []; split <;> simp
@[simp] theorem State.fireLate_queue (s : State) (o : Order) : (s.fireLate o).queue = s.queue := by
  unfold State.fireLate; simp only []; split <;> simp
@[simp] theorem State.fireLate_rules (s : State) (o : Order) : (s.fireLate o).rules = s.rules := by
  unfold State.fireLate; simp only []; split <;> simp
@[simp] theorem State.fireLate_link (s : State) (o : Order) : (s.fireLate o).link = s.link := by
  unfold State.fireLate; simp only []; split <;> simp
@[simp] theorem State.fireLate_power (s : State) (o : Order) : (s.fireLate o).power = s.power := by
  unfold State.fireLate; simp only []; split <;> simp
@[simp] theorem State.fireLate_inputs (s : State) (o : Order) : (s.fireLate o).inputs = s.inputs := by
  unfold State.fireLate; simp only []; split <;> simp
@[simp] theorem State.fireLate_freeCount (s : State) (o : Order) : (s.fireLate o).freeCount = s.freeCount := by
  unfold State.fireLate; simp only []; split <;> simp
@[simp] theorem State.fireLate_pending (s : State) (o : Order) : (s.fireLate o).pending = s.pending := by
  unfold State.fireLate; simp only []; split <;> simp
@[simp] theorem State.carryOut_timebase (s : State) (o : Order) : (s.carryOut o).timebase = s.timebase := by
  unfold State.carryOut; split <;> simp
@[simp] theorem State.carryOut_qualifiers (s : State) (o : Order) : (s.carryOut o).qualifiers = s.qualifiers := by
  unfold State.carryOut; split <;> simp
@[simp] theorem State.carryOut_queue (s : State) (o : Order) : (s.carryOut o).queue = s.queue := by
  unfold State.carryOut; split <;> simp
@[simp] theorem State.carryOut_rules (s : State) (o : Order) : (s.carryOut o).rules = s.rules := by
  unfold State.carryOut; split <;> simp
@[simp] theorem State.carryOut_link (s : State) (o : Order) : (s.carryOut o).link = s.link := by
  unfold State.carryOut; split <;> simp
@[simp] theorem State.carryOut_power (s : State) (o : Order) : (s.carryOut o).power = s.power := by
  unfold State.carryOut; split <;> simp
@[simp] theorem State.carryOut_inputs (s : State) (o : Order) : (s.carryOut o).inputs = s.inputs := by
  unfold State.carryOut; split <;> simp
@[simp] theorem State.carryOut_freeCount (s : State) (o : Order) : (s.carryOut o).freeCount = s.freeCount := by
  unfold State.carryOut; split <;> simp
@[simp] theorem State.carryOut_pending (s : State) (o : Order) : (s.carryOut o).pending = s.pending := by
  unfold State.carryOut; split <;> simp
@[simp] theorem State.cancelEntry_timebase (s : State) (e : AgendaEntry) (c : Bool) :
    (s.cancelEntry e c).timebase = s.timebase := by
  unfold State.cancelEntry; split <;> simp
@[simp] theorem State.cancelEntry_qualifiers (s : State) (e : AgendaEntry) (c : Bool) :
    (s.cancelEntry e c).qualifiers = s.qualifiers := by
  unfold State.cancelEntry; split <;> simp
@[simp] theorem State.cancelEntry_queue (s : State) (e : AgendaEntry) (c : Bool) :
    (s.cancelEntry e c).queue = s.queue := by
  unfold State.cancelEntry; split <;> simp
@[simp] theorem State.cancelEntry_rules (s : State) (e : AgendaEntry) (c : Bool) :
    (s.cancelEntry e c).rules = s.rules := by
  unfold State.cancelEntry; split <;> simp
@[simp] theorem State.cancelEntry_notices (s : State) (e : AgendaEntry) (c : Bool) :
    (s.cancelEntry e c).notices = s.notices := by
  unfold State.cancelEntry; split <;> simp
@[simp] theorem State.cancelEntry_power (s : State) (e : AgendaEntry) (c : Bool) :
    (s.cancelEntry e c).power = s.power := by
  unfold State.cancelEntry; split <;> simp
@[simp] theorem State.cancelEntry_inputs (s : State) (e : AgendaEntry) (c : Bool) :
    (s.cancelEntry e c).inputs = s.inputs := by
  unfold State.cancelEntry; split <;> simp
@[simp] theorem State.cancelEntry_freeCount (s : State) (e : AgendaEntry) (c : Bool) :
    (s.cancelEntry e c).freeCount = s.freeCount := by
  unfold State.cancelEntry; split <;> simp
@[simp] theorem State.cancelEntry_pending (s : State) (e : AgendaEntry) (c : Bool) :
    (s.cancelEntry e c).pending = s.pending := by
  unfold State.cancelEntry; split <;> simp

/-! ## Follow Table -/

@[simp] theorem State.clearRule_timebase (s : State) (k : RuleId) : (s.clearRule k).timebase = s.timebase := by
  unfold State.clearRule; split <;> simp
@[simp] theorem State.clearRule_lines (s : State) (k : RuleId) : (s.clearRule k).lines = s.lines := by
  unfold State.clearRule; split <;> simp
@[simp] theorem State.clearRule_qualifiers (s : State) (k : RuleId) : (s.clearRule k).qualifiers = s.qualifiers := by
  unfold State.clearRule; split <;> simp
@[simp] theorem State.clearRule_queue (s : State) (k : RuleId) : (s.clearRule k).queue = s.queue := by
  unfold State.clearRule; split <;> simp
@[simp] theorem State.clearRule_notices (s : State) (k : RuleId) : (s.clearRule k).notices = s.notices := by
  unfold State.clearRule; split <;> simp
@[simp] theorem State.clearRule_power (s : State) (k : RuleId) : (s.clearRule k).power = s.power := by
  unfold State.clearRule; split <;> simp
@[simp] theorem State.clearRule_inputs (s : State) (k : RuleId) : (s.clearRule k).inputs = s.inputs := by
  unfold State.clearRule; split <;> simp
@[simp] theorem State.clearRule_freeCount (s : State) (k : RuleId) : (s.clearRule k).freeCount = s.freeCount := by
  unfold State.clearRule; split <;> simp
@[simp] theorem State.clearRule_pending (s : State) (k : RuleId) : (s.clearRule k).pending = s.pending := by
  unfold State.clearRule; split <;> simp
@[simp] theorem State.missRule_timebase (s : State) (k : RuleId) (r : FollowRule) (m : MissReason) (c : Capture) :
    (s.missRule k r m c).timebase = s.timebase := by
  simp [State.missRule]
@[simp] theorem State.missRule_lines (s : State) (k : RuleId) (r : FollowRule) (m : MissReason) (c : Capture) :
    (s.missRule k r m c).lines = s.lines := by
  simp [State.missRule]
@[simp] theorem State.missRule_qualifiers (s : State) (k : RuleId) (r : FollowRule) (m : MissReason) (c : Capture) :
    (s.missRule k r m c).qualifiers = s.qualifiers := by
  simp [State.missRule]
@[simp] theorem State.missRule_queue (s : State) (k : RuleId) (r : FollowRule) (m : MissReason) (c : Capture) :
    (s.missRule k r m c).queue = s.queue := by
  simp [State.missRule]
@[simp] theorem State.missRule_agenda (s : State) (k : RuleId) (r : FollowRule) (m : MissReason) (c : Capture) :
    (s.missRule k r m c).agenda = s.agenda := by
  simp [State.missRule]
@[simp] theorem State.missRule_link (s : State) (k : RuleId) (r : FollowRule) (m : MissReason) (c : Capture) :
    (s.missRule k r m c).link = s.link := by
  simp [State.missRule]
@[simp] theorem State.missRule_power (s : State) (k : RuleId) (r : FollowRule) (m : MissReason) (c : Capture) :
    (s.missRule k r m c).power = s.power := by
  simp [State.missRule]
@[simp] theorem State.missRule_inputs (s : State) (k : RuleId) (r : FollowRule) (m : MissReason) (c : Capture) :
    (s.missRule k r m c).inputs = s.inputs := by
  simp [State.missRule]
@[simp] theorem State.missRule_freeCount (s : State) (k : RuleId) (r : FollowRule) (m : MissReason) (c : Capture) :
    (s.missRule k r m c).freeCount = s.freeCount := by
  simp [State.missRule]
@[simp] theorem State.missRule_pending (s : State) (k : RuleId) (r : FollowRule) (m : MissReason) (c : Capture) :
    (s.missRule k r m c).pending = s.pending := by
  simp [State.missRule]
@[simp] theorem State.countFire_timebase (s : State) (k : RuleId) (r : FollowRule) :
    (s.countFire k r).timebase = s.timebase := by
  simp [State.countFire]
@[simp] theorem State.countFire_lines (s : State) (k : RuleId) (r : FollowRule) :
    (s.countFire k r).lines = s.lines := by
  simp [State.countFire]
@[simp] theorem State.countFire_qualifiers (s : State) (k : RuleId) (r : FollowRule) :
    (s.countFire k r).qualifiers = s.qualifiers := by
  simp [State.countFire]
@[simp] theorem State.countFire_queue (s : State) (k : RuleId) (r : FollowRule) :
    (s.countFire k r).queue = s.queue := by
  simp [State.countFire]
@[simp] theorem State.countFire_agenda (s : State) (k : RuleId) (r : FollowRule) :
    (s.countFire k r).agenda = s.agenda := by
  simp [State.countFire]
@[simp] theorem State.countFire_link (s : State) (k : RuleId) (r : FollowRule) : (s.countFire k r).link = s.link := by
  simp [State.countFire]
@[simp] theorem State.countFire_power (s : State) (k : RuleId) (r : FollowRule) :
    (s.countFire k r).power = s.power := by
  simp [State.countFire]
@[simp] theorem State.countFire_inputs (s : State) (k : RuleId) (r : FollowRule) :
    (s.countFire k r).inputs = s.inputs := by
  simp [State.countFire]
@[simp] theorem State.countFire_freeCount (s : State) (k : RuleId) (r : FollowRule) :
    (s.countFire k r).freeCount = s.freeCount := by
  simp [State.countFire]
@[simp] theorem State.countFire_pending (s : State) (k : RuleId) (r : FollowRule) :
    (s.countFire k r).pending = s.pending := by
  simp [State.countFire]
@[simp] theorem State.placeFire_timebase (s : State) (k : RuleId) (r : FollowRule) (d : Stamp) :
    (s.placeFire k r d).timebase = s.timebase := by
  unfold State.placeFire; simp only []; (repeat' split) <;> simp
@[simp] theorem State.placeFire_qualifiers (s : State) (k : RuleId) (r : FollowRule) (d : Stamp) :
    (s.placeFire k r d).qualifiers = s.qualifiers := by
  unfold State.placeFire; simp only []; (repeat' split) <;> simp
@[simp] theorem State.placeFire_queue (s : State) (k : RuleId) (r : FollowRule) (d : Stamp) :
    (s.placeFire k r d).queue = s.queue := by
  unfold State.placeFire; simp only []; (repeat' split) <;> simp
@[simp] theorem State.placeFire_rules (s : State) (k : RuleId) (r : FollowRule) (d : Stamp) :
    (s.placeFire k r d).rules = s.rules := by
  unfold State.placeFire; simp only []; (repeat' split) <;> simp
@[simp] theorem State.placeFire_notices (s : State) (k : RuleId) (r : FollowRule) (d : Stamp) :
    (s.placeFire k r d).notices = s.notices := by
  unfold State.placeFire; simp only []; (repeat' split) <;> simp
@[simp] theorem State.placeFire_link (s : State) (k : RuleId) (r : FollowRule) (d : Stamp) :
    (s.placeFire k r d).link = s.link := by
  unfold State.placeFire; simp only []; (repeat' split) <;> simp
@[simp] theorem State.placeFire_power (s : State) (k : RuleId) (r : FollowRule) (d : Stamp) :
    (s.placeFire k r d).power = s.power := by
  unfold State.placeFire; simp only []; (repeat' split) <;> simp
@[simp] theorem State.placeFire_inputs (s : State) (k : RuleId) (r : FollowRule) (d : Stamp) :
    (s.placeFire k r d).inputs = s.inputs := by
  unfold State.placeFire; simp only []; (repeat' split) <;> simp
@[simp] theorem State.placeFire_freeCount (s : State) (k : RuleId) (r : FollowRule) (d : Stamp) :
    (s.placeFire k r d).freeCount = s.freeCount := by
  unfold State.placeFire; simp only []; (repeat' split) <;> simp
@[simp] theorem State.placeFire_pending (s : State) (k : RuleId) (r : FollowRule) (d : Stamp) :
    (s.placeFire k r d).pending = s.pending := by
  unfold State.placeFire; simp only []; (repeat' split) <;> simp
@[simp] theorem State.retrigger_timebase (s : State) (e : AgendaEntry) : (s.retrigger e).timebase = s.timebase := by
  unfold State.retrigger; split <;> simp
@[simp] theorem State.retrigger_qualifiers (s : State) (e : AgendaEntry) :
    (s.retrigger e).qualifiers = s.qualifiers := by
  unfold State.retrigger; split <;> simp
@[simp] theorem State.retrigger_queue (s : State) (e : AgendaEntry) : (s.retrigger e).queue = s.queue := by
  unfold State.retrigger; split <;> simp
@[simp] theorem State.retrigger_rules (s : State) (e : AgendaEntry) : (s.retrigger e).rules = s.rules := by
  unfold State.retrigger; split <;> simp
@[simp] theorem State.retrigger_notices (s : State) (e : AgendaEntry) : (s.retrigger e).notices = s.notices := by
  unfold State.retrigger; split <;> simp
@[simp] theorem State.retrigger_link (s : State) (e : AgendaEntry) : (s.retrigger e).link = s.link := by
  unfold State.retrigger; split <;> simp
@[simp] theorem State.retrigger_power (s : State) (e : AgendaEntry) : (s.retrigger e).power = s.power := by
  unfold State.retrigger; split <;> simp
@[simp] theorem State.retrigger_inputs (s : State) (e : AgendaEntry) : (s.retrigger e).inputs = s.inputs := by
  unfold State.retrigger; split <;> simp
@[simp] theorem State.retrigger_freeCount (s : State) (e : AgendaEntry) :
    (s.retrigger e).freeCount = s.freeCount := by
  unfold State.retrigger; split <;> simp
@[simp] theorem State.retrigger_pending (s : State) (e : AgendaEntry) : (s.retrigger e).pending = s.pending := by
  unfold State.retrigger; split <;> simp
@[simp] theorem State.tryFire_timebase (s : State) (k : RuleId) (r : FollowRule) (d : Stamp) (c : Capture) :
    (s.tryFire k r d c).1.timebase = s.timebase := by
  unfold State.tryFire; split <;> simp
@[simp] theorem State.tryFire_qualifiers (s : State) (k : RuleId) (r : FollowRule) (d : Stamp) (c : Capture) :
    (s.tryFire k r d c).1.qualifiers = s.qualifiers := by
  unfold State.tryFire; split <;> simp
@[simp] theorem State.tryFire_queue (s : State) (k : RuleId) (r : FollowRule) (d : Stamp) (c : Capture) :
    (s.tryFire k r d c).1.queue = s.queue := by
  unfold State.tryFire; split <;> simp
@[simp] theorem State.tryFire_link (s : State) (k : RuleId) (r : FollowRule) (d : Stamp) (c : Capture) :
    (s.tryFire k r d c).1.link = s.link := by
  unfold State.tryFire; split <;> simp
@[simp] theorem State.tryFire_power (s : State) (k : RuleId) (r : FollowRule) (d : Stamp) (c : Capture) :
    (s.tryFire k r d c).1.power = s.power := by
  unfold State.tryFire; split <;> simp
@[simp] theorem State.tryFire_inputs (s : State) (k : RuleId) (r : FollowRule) (d : Stamp) (c : Capture) :
    (s.tryFire k r d c).1.inputs = s.inputs := by
  unfold State.tryFire; split <;> simp
@[simp] theorem State.tryFire_freeCount (s : State) (k : RuleId) (r : FollowRule) (d : Stamp) (c : Capture) :
    (s.tryFire k r d c).1.freeCount = s.freeCount := by
  unfold State.tryFire; split <;> simp
@[simp] theorem State.tryFire_pending (s : State) (k : RuleId) (r : FollowRule) (d : Stamp) (c : Capture) :
    (s.tryFire k r d c).1.pending = s.pending := by
  unfold State.tryFire; split <;> simp
@[simp] theorem State.retriggerTest_timebase (s : State) (k : RuleId) (r : FollowRule) (d : Stamp) (c : Capture) :
    (s.retriggerTest k r d c).1.timebase = s.timebase := by
  unfold State.retriggerTest; split <;> simp
@[simp] theorem State.retriggerTest_qualifiers (s : State) (k : RuleId) (r : FollowRule) (d : Stamp) (c : Capture) :
    (s.retriggerTest k r d c).1.qualifiers = s.qualifiers := by
  unfold State.retriggerTest; split <;> simp
@[simp] theorem State.retriggerTest_queue (s : State) (k : RuleId) (r : FollowRule) (d : Stamp) (c : Capture) :
    (s.retriggerTest k r d c).1.queue = s.queue := by
  unfold State.retriggerTest; split <;> simp
@[simp] theorem State.retriggerTest_power (s : State) (k : RuleId) (r : FollowRule) (d : Stamp) (c : Capture) :
    (s.retriggerTest k r d c).1.power = s.power := by
  unfold State.retriggerTest; split <;> simp
@[simp] theorem State.retriggerTest_inputs (s : State) (k : RuleId) (r : FollowRule) (d : Stamp) (c : Capture) :
    (s.retriggerTest k r d c).1.inputs = s.inputs := by
  unfold State.retriggerTest; split <;> simp
@[simp] theorem State.retriggerTest_freeCount (s : State) (k : RuleId) (r : FollowRule) (d : Stamp) (c : Capture) :
    (s.retriggerTest k r d c).1.freeCount = s.freeCount := by
  unfold State.retriggerTest; split <;> simp
@[simp] theorem State.retriggerTest_pending (s : State) (k : RuleId) (r : FollowRule) (d : Stamp) (c : Capture) :
    (s.retriggerTest k r d c).1.pending = s.pending := by
  unfold State.retriggerTest; split <;> simp
@[simp] theorem State.matchRule_timebase (s : State) (k : RuleId) (r : FollowRule) (c : Capture) :
    (s.matchRule k r c).1.timebase = s.timebase := by
  unfold State.matchRule; simp only []; (repeat' split) <;> simp
@[simp] theorem State.matchRule_qualifiers (s : State) (k : RuleId) (r : FollowRule) (c : Capture) :
    (s.matchRule k r c).1.qualifiers = s.qualifiers := by
  unfold State.matchRule; simp only []; (repeat' split) <;> simp
@[simp] theorem State.matchRule_queue (s : State) (k : RuleId) (r : FollowRule) (c : Capture) :
    (s.matchRule k r c).1.queue = s.queue := by
  unfold State.matchRule; simp only []; (repeat' split) <;> simp
@[simp] theorem State.matchRule_power (s : State) (k : RuleId) (r : FollowRule) (c : Capture) :
    (s.matchRule k r c).1.power = s.power := by
  unfold State.matchRule; simp only []; (repeat' split) <;> simp
@[simp] theorem State.matchRule_inputs (s : State) (k : RuleId) (r : FollowRule) (c : Capture) :
    (s.matchRule k r c).1.inputs = s.inputs := by
  unfold State.matchRule; simp only []; (repeat' split) <;> simp
@[simp] theorem State.matchRule_freeCount (s : State) (k : RuleId) (r : FollowRule) (c : Capture) :
    (s.matchRule k r c).1.freeCount = s.freeCount := by
  unfold State.matchRule; simp only []; (repeat' split) <;> simp
@[simp] theorem State.matchRule_pending (s : State) (k : RuleId) (r : FollowRule) (c : Capture) :
    (s.matchRule k r c).1.pending = s.pending := by
  unfold State.matchRule; simp only []; (repeat' split) <;> simp
@[simp] theorem tryRule_timebase (c : Capture) (a : State × List RuleId) (k : RuleId) :
    (tryRule c a k).1.timebase = a.1.timebase := by
  unfold tryRule; (repeat' split) <;> simp
@[simp] theorem tryRule_qualifiers (c : Capture) (a : State × List RuleId) (k : RuleId) :
    (tryRule c a k).1.qualifiers = a.1.qualifiers := by
  unfold tryRule; (repeat' split) <;> simp
@[simp] theorem tryRule_queue (c : Capture) (a : State × List RuleId) (k : RuleId) :
    (tryRule c a k).1.queue = a.1.queue := by
  unfold tryRule; (repeat' split) <;> simp
@[simp] theorem tryRule_power (c : Capture) (a : State × List RuleId) (k : RuleId) :
    (tryRule c a k).1.power = a.1.power := by
  unfold tryRule; (repeat' split) <;> simp
@[simp] theorem tryRule_inputs (c : Capture) (a : State × List RuleId) (k : RuleId) :
    (tryRule c a k).1.inputs = a.1.inputs := by
  unfold tryRule; (repeat' split) <;> simp
@[simp] theorem tryRule_freeCount (c : Capture) (a : State × List RuleId) (k : RuleId) :
    (tryRule c a k).1.freeCount = a.1.freeCount := by
  unfold tryRule; (repeat' split) <;> simp
@[simp] theorem tryRule_pending (c : Capture) (a : State × List RuleId) (k : RuleId) :
    (tryRule c a k).1.pending = a.1.pending := by
  unfold tryRule; (repeat' split) <;> simp
theorem tryRules_timebase (c : Capture) (l : List RuleId) (a : State × List RuleId) :
    (l.foldl (tryRule c) a).1.timebase = a.1.timebase :=
  foldl_keeps (fun a : State × List RuleId => a.1.timebase) (tryRule c) (fun _ _ => by simp) l a
theorem tryRules_qualifiers (c : Capture) (l : List RuleId) (a : State × List RuleId) :
    (l.foldl (tryRule c) a).1.qualifiers = a.1.qualifiers :=
  foldl_keeps (fun a : State × List RuleId => a.1.qualifiers) (tryRule c) (fun _ _ => by simp) l a
theorem tryRules_queue (c : Capture) (l : List RuleId) (a : State × List RuleId) :
    (l.foldl (tryRule c) a).1.queue = a.1.queue :=
  foldl_keeps (fun a : State × List RuleId => a.1.queue) (tryRule c) (fun _ _ => by simp) l a
theorem tryRules_power (c : Capture) (l : List RuleId) (a : State × List RuleId) :
    (l.foldl (tryRule c) a).1.power = a.1.power :=
  foldl_keeps (fun a : State × List RuleId => a.1.power) (tryRule c) (fun _ _ => by simp) l a
theorem tryRules_inputs (c : Capture) (l : List RuleId) (a : State × List RuleId) :
    (l.foldl (tryRule c) a).1.inputs = a.1.inputs :=
  foldl_keeps (fun a : State × List RuleId => a.1.inputs) (tryRule c) (fun _ _ => by simp) l a
theorem tryRules_freeCount (c : Capture) (l : List RuleId) (a : State × List RuleId) :
    (l.foldl (tryRule c) a).1.freeCount = a.1.freeCount :=
  foldl_keeps (fun a : State × List RuleId => a.1.freeCount) (tryRule c) (fun _ _ => by simp) l a
theorem tryRules_pending (c : Capture) (l : List RuleId) (a : State × List RuleId) :
    (l.foldl (tryRule c) a).1.pending = a.1.pending :=
  foldl_keeps (fun a : State × List RuleId => a.1.pending) (tryRule c) (fun _ _ => by simp) l a
@[simp] theorem State.matchCapture_timebase (s : State) (c : Capture) :
    (s.matchCapture c).1.timebase = s.timebase := by
  rw [State.matchCapture, tryRules_timebase]
@[simp] theorem State.matchCapture_qualifiers (s : State) (c : Capture) :
    (s.matchCapture c).1.qualifiers = s.qualifiers := by
  rw [State.matchCapture, tryRules_qualifiers]
@[simp] theorem State.matchCapture_queue (s : State) (c : Capture) :
    (s.matchCapture c).1.queue = s.queue := by
  rw [State.matchCapture, tryRules_queue]
@[simp] theorem State.matchCapture_power (s : State) (c : Capture) :
    (s.matchCapture c).1.power = s.power := by
  rw [State.matchCapture, tryRules_power]
@[simp] theorem State.matchCapture_inputs (s : State) (c : Capture) :
    (s.matchCapture c).1.inputs = s.inputs := by
  rw [State.matchCapture, tryRules_inputs]
@[simp] theorem State.matchCapture_freeCount (s : State) (c : Capture) :
    (s.matchCapture c).1.freeCount = s.freeCount := by
  rw [State.matchCapture, tryRules_freeCount]
@[simp] theorem State.matchCapture_pending (s : State) (c : Capture) :
    (s.matchCapture c).1.pending = s.pending := by
  rw [State.matchCapture, tryRules_pending]

/-! ## The tick -/

@[simp] theorem State.handOver_timebase (s : State) (c : Capture) : (s.handOver c).timebase = s.timebase := by
  simp [State.handOver]
@[simp] theorem State.handOver_qualifiers (s : State) (c : Capture) : (s.handOver c).qualifiers = s.qualifiers := by
  simp [State.handOver]
@[simp] theorem State.handOver_power (s : State) (c : Capture) : (s.handOver c).power = s.power := by
  simp [State.handOver]
@[simp] theorem State.handOver_inputs (s : State) (c : Capture) : (s.handOver c).inputs = s.inputs := by
  simp [State.handOver]
@[simp] theorem State.handOver_freeCount (s : State) (c : Capture) : (s.handOver c).freeCount = s.freeCount := by
  simp [State.handOver]
@[simp] theorem State.handOver_pending (s : State) (c : Capture) : (s.handOver c).pending = s.pending := by
  simp [State.handOver]
@[simp] theorem State.qualify_timebase (s : State) : s.qualify.timebase = s.timebase := by
  unfold State.qualify; rw [foldl_keeps State.timebase _ (fun _ _ => by simp)]; simp
@[simp] theorem State.qualify_power (s : State) : s.qualify.power = s.power := by
  unfold State.qualify; rw [foldl_keeps State.power _ (fun _ _ => by simp)]; simp
@[simp] theorem State.qualify_inputs (s : State) : s.qualify.inputs = s.inputs := by
  unfold State.qualify; rw [foldl_keeps State.inputs _ (fun _ _ => by simp)]; simp
@[simp] theorem State.qualify_freeCount (s : State) : s.qualify.freeCount = s.freeCount := by
  unfold State.qualify; rw [foldl_keeps State.freeCount _ (fun _ _ => by simp)]; simp
@[simp] theorem State.qualify_pending (s : State) : s.qualify.pending = s.pending := by
  unfold State.qualify; rw [foldl_keeps State.pending _ (fun _ _ => by simp)]; simp
@[simp] theorem State.runTick_power (s : State) (pins : Half) : (s.runTick pins).power = s.power := by
  simp [State.runTick]
@[simp] theorem State.runTick_freeCount (s : State) (pins : Half) : (s.runTick pins).freeCount = s.freeCount := by
  simp [State.runTick]
@[simp] theorem State.runTick_pending (s : State) (pins : Half) : (s.runTick pins).pending = s.pending := by
  simp [State.runTick]
@[simp] theorem State.runTick_timebase (s : State) (pins : Half) : (s.runTick pins).timebase = s.timebase.advance := by
  simp [State.runTick]
@[simp] theorem State.runTick_inputs (s : State) (pins : Half) : (s.runTick pins).inputs = pins := by
  simp [State.runTick]

/-! ## Notices, device and link -/

@[simp] theorem State.noticeSent_timebase (s : State) : s.noticeSent.timebase = s.timebase := by
  unfold State.noticeSent; split <;> simp
@[simp] theorem State.noticeSent_lines (s : State) : s.noticeSent.lines = s.lines := by
  unfold State.noticeSent; split <;> simp
@[simp] theorem State.noticeSent_qualifiers (s : State) : s.noticeSent.qualifiers = s.qualifiers := by
  unfold State.noticeSent; split <;> simp
@[simp] theorem State.noticeSent_queue (s : State) : s.noticeSent.queue = s.queue := by
  unfold State.noticeSent; split <;> simp
@[simp] theorem State.noticeSent_agenda (s : State) : s.noticeSent.agenda = s.agenda := by
  unfold State.noticeSent; split <;> simp
@[simp] theorem State.noticeSent_rules (s : State) : s.noticeSent.rules = s.rules := by
  unfold State.noticeSent; split <;> simp
@[simp] theorem State.noticeSent_power (s : State) : s.noticeSent.power = s.power := by
  unfold State.noticeSent; split <;> simp
@[simp] theorem State.noticeSent_inputs (s : State) : s.noticeSent.inputs = s.inputs := by
  unfold State.noticeSent; split <;> simp
@[simp] theorem State.noticeSent_freeCount (s : State) : s.noticeSent.freeCount = s.freeCount := by
  unfold State.noticeSent; split <;> simp
@[simp] theorem State.noticeSent_pending (s : State) : s.noticeSent.pending = s.pending := by
  unfold State.noticeSent; split <;> simp
@[simp] theorem State.awaitExpiry_timebase (s : State) : s.awaitExpiry.timebase = s.timebase := by
  unfold State.awaitExpiry; split <;> simp
@[simp] theorem State.awaitExpiry_lines (s : State) : s.awaitExpiry.lines = s.lines := by
  unfold State.awaitExpiry; split <;> simp
@[simp] theorem State.awaitExpiry_qualifiers (s : State) : s.awaitExpiry.qualifiers = s.qualifiers := by
  unfold State.awaitExpiry; split <;> simp
@[simp] theorem State.awaitExpiry_queue (s : State) : s.awaitExpiry.queue = s.queue := by
  unfold State.awaitExpiry; split <;> simp
@[simp] theorem State.awaitExpiry_agenda (s : State) : s.awaitExpiry.agenda = s.agenda := by
  unfold State.awaitExpiry; split <;> simp
@[simp] theorem State.awaitExpiry_rules (s : State) : s.awaitExpiry.rules = s.rules := by
  unfold State.awaitExpiry; split <;> simp
@[simp] theorem State.awaitExpiry_notices (s : State) : s.awaitExpiry.notices = s.notices := by
  unfold State.awaitExpiry; split <;> simp
@[simp] theorem State.awaitExpiry_power (s : State) : s.awaitExpiry.power = s.power := by
  unfold State.awaitExpiry; split <;> simp
@[simp] theorem State.awaitExpiry_inputs (s : State) : s.awaitExpiry.inputs = s.inputs := by
  unfold State.awaitExpiry; split <;> simp
@[simp] theorem State.awaitExpiry_freeCount (s : State) : s.awaitExpiry.freeCount = s.freeCount := by
  unfold State.awaitExpiry; split <;> simp
@[simp] theorem State.awaitExpiry_pending (s : State) : s.awaitExpiry.pending = s.pending := by
  unfold State.awaitExpiry; split <;> simp
@[simp] theorem State.firstSample_power (s : State) (h : Bool) : (s.firstSample h).power = s.power := by
  unfold State.firstSample; split <;> simp
@[simp] theorem State.firstSample_inputs (s : State) (h : Bool) : (s.firstSample h).inputs = s.inputs := by
  unfold State.firstSample; split <;> simp
@[simp] theorem State.firstSample_freeCount (s : State) (h : Bool) : (s.firstSample h).freeCount = s.freeCount := by
  unfold State.firstSample; split <;> simp
@[simp] theorem State.firstSample_pending (s : State) (h : Bool) : (s.firstSample h).pending = s.pending := by
  unfold State.firstSample; split <;> simp
@[simp] theorem State.restartEffect_power (s : State) : s.restartEffect.power = s.power := by
  simp [State.restartEffect, State.resetBlocks]
@[simp] theorem State.restartEffect_inputs (s : State) : s.restartEffect.inputs = s.inputs := by
  simp [State.restartEffect, State.resetBlocks]
@[simp] theorem State.restartEffect_freeCount (s : State) : s.restartEffect.freeCount = s.freeCount := by
  simp [State.restartEffect, State.resetBlocks]
@[simp] theorem State.restartEffect_pending (s : State) : s.restartEffect.pending = s.pending := by
  simp [State.restartEffect, State.resetBlocks]
@[simp] theorem State.beginReset_inputs (s : State) (p : Power) : (s.beginReset p).inputs = s.inputs := by rfl
@[simp] theorem State.beginReset_freeCount (s : State) (p : Power) : (s.beginReset p).freeCount = s.freeCount := by
  rfl
@[simp] theorem State.beginReset_pending (s : State) (p : Power) : (s.beginReset p).pending = s.pending := by rfl
@[simp] theorem State.endReset_inputs (s : State) (r : Rate) (h : Bool) : (s.endReset r h).inputs = s.inputs := by
  simp [State.endReset, State.resetBlocks]
@[simp] theorem State.endReset_freeCount (s : State) (r : Rate) (h : Bool) :
    (s.endReset r h).freeCount = s.freeCount := by
  simp [State.endReset, State.resetBlocks]
@[simp] theorem State.endReset_pending (s : State) (r : Rate) (h : Bool) : (s.endReset r h).pending = s.pending := by
  simp [State.endReset, State.resetBlocks]
@[simp] theorem State.takeRepeat_timebase (s : State) (k : BitVec 6) : (s.takeRepeat k).timebase = s.timebase := by
  unfold State.takeRepeat; split <;> simp
@[simp] theorem State.takeRepeat_lines (s : State) (k : BitVec 6) : (s.takeRepeat k).lines = s.lines := by
  unfold State.takeRepeat; split <;> simp
@[simp] theorem State.takeRepeat_qualifiers (s : State) (k : BitVec 6) :
    (s.takeRepeat k).qualifiers = s.qualifiers := by
  unfold State.takeRepeat; split <;> simp
@[simp] theorem State.takeRepeat_queue (s : State) (k : BitVec 6) : (s.takeRepeat k).queue = s.queue := by
  unfold State.takeRepeat; split <;> simp
@[simp] theorem State.takeRepeat_agenda (s : State) (k : BitVec 6) : (s.takeRepeat k).agenda = s.agenda := by
  unfold State.takeRepeat; split <;> simp
@[simp] theorem State.takeRepeat_rules (s : State) (k : BitVec 6) : (s.takeRepeat k).rules = s.rules := by
  unfold State.takeRepeat; split <;> simp
@[simp] theorem State.takeRepeat_notices (s : State) (k : BitVec 6) : (s.takeRepeat k).notices = s.notices := by
  unfold State.takeRepeat; split <;> simp
@[simp] theorem State.takeRepeat_power (s : State) (k : BitVec 6) : (s.takeRepeat k).power = s.power := by
  unfold State.takeRepeat; split <;> simp
@[simp] theorem State.takeRepeat_inputs (s : State) (k : BitVec 6) : (s.takeRepeat k).inputs = s.inputs := by
  unfold State.takeRepeat; split <;> simp
@[simp] theorem State.takeRepeat_freeCount (s : State) (k : BitVec 6) : (s.takeRepeat k).freeCount = s.freeCount := by
  unfold State.takeRepeat; split <;> simp
@[simp] theorem State.takeRepeat_pending (s : State) (k : BitVec 6) : (s.takeRepeat k).pending = s.pending := by
  unfold State.takeRepeat; split <;> simp
@[simp] theorem State.deferredSent_timebase (s : State) : s.deferredSent.timebase = s.timebase := by
  unfold State.deferredSent; split <;> simp
@[simp] theorem State.deferredSent_lines (s : State) : s.deferredSent.lines = s.lines := by
  unfold State.deferredSent; split <;> simp
@[simp] theorem State.deferredSent_qualifiers (s : State) : s.deferredSent.qualifiers = s.qualifiers := by
  unfold State.deferredSent; split <;> simp
@[simp] theorem State.deferredSent_queue (s : State) : s.deferredSent.queue = s.queue := by
  unfold State.deferredSent; split <;> simp
@[simp] theorem State.deferredSent_agenda (s : State) : s.deferredSent.agenda = s.agenda := by
  unfold State.deferredSent; split <;> simp
@[simp] theorem State.deferredSent_rules (s : State) : s.deferredSent.rules = s.rules := by
  unfold State.deferredSent; split <;> simp
@[simp] theorem State.deferredSent_notices (s : State) : s.deferredSent.notices = s.notices := by
  unfold State.deferredSent; split <;> simp
@[simp] theorem State.deferredSent_power (s : State) : s.deferredSent.power = s.power := by
  unfold State.deferredSent; split <;> simp
@[simp] theorem State.deferredSent_inputs (s : State) : s.deferredSent.inputs = s.inputs := by
  unfold State.deferredSent; split <;> simp
@[simp] theorem State.deferredSent_freeCount (s : State) : s.deferredSent.freeCount = s.freeCount := by
  unfold State.deferredSent; split <;> simp
@[simp] theorem State.deferredSent_pending (s : State) : s.deferredSent.pending = s.pending := by
  unfold State.deferredSent; split <;> simp

end Sys2Proof.Machine
end

