-- ==== Sys2Proof/Laws/Link.lean ====
section
/-! SUPPORT. What the transmitter, the taking of a request and the frame of an event do, and what
TXD shows, said once: later proofs cite
these and do not unfold the operations. -/

namespace Sys2Proof.Machine

/-! ## The transmitter (R175) -/

theorem State.transmit_busy {s : State} (h : s.link.tx ≠ .idle) : s.transmit = s := by
  unfold State.transmit
  split
  · next h1 _ => exact absurd h1 h
  · rfl

theorem State.transmit_reply {s : State} {f : ReplyFrame} (h : s.link.replySlot = some f) :
    s.transmit = { s with link := { s.link with tx := if s.link.tx = .idle then .sending (.reply f) else s.link.tx } } := by
  by_cases ht : s.link.tx = .idle
  · simp [State.transmit, State.offered, h, ht, State.beginFrame]
  · simp [State.transmit_busy ht, ht]

theorem State.transmit_none {s : State} (h : s.offered = none) : s.transmit = s := by
  unfold State.transmit
  split
  · next h2 => simp [h] at h2
  · rfl

theorem State.transmit_idle {s : State} {f : TxFrame} (ht : s.link.tx = .idle) (h : s.offered = some f) :
    s.transmit = s.beginFrame f := by
  simp only [State.transmit, h, ht]

/-- After a choice the transmitter sends or has nothing offered: a second choice changes nothing. -/
theorem State.transmit_transmit (s : State) : s.transmit.transmit = s.transmit := by
  by_cases ht : s.link.tx = .idle
  · cases h : s.offered with
    | none => rw [State.transmit_none h, State.transmit_none h]
    | some f =>
      rw [State.transmit_idle ht h]
      exact State.transmit_busy (by cases f <;> simp [State.beginFrame])
  · rw [State.transmit_busy ht, State.transmit_busy ht]

/-- The transmitter's choice changes no part of the link but the transmitter. -/
theorem State.transmit_link (s : State) : s.transmit.link = { s.link with tx := s.transmit.link.tx } := by
  by_cases ht : s.link.tx = .idle
  · cases h : s.offered with
    | none => rw [State.transmit_none h]
    | some f => rw [State.transmit_idle ht h]; cases f <;> rfl
  · rw [State.transmit_busy ht]

/-! ## Events -/

theorem event_next (f : State → State) (s : State) (h : s.power.inReset = false) : event f s = .next (f s).transmit := by
  simp [event, h]

theorem event_inReset (f : State → State) (s : State) (h : s.power.inReset = true) : event f s = .next s := by
  simp [event, h]

theorem eventIf_next (p : State → Bool) (f : State → State) (s : State) (h : s.power.inReset = false) (hp : p s = true) :
    eventIf p f s = .next (f s).transmit := by
  simp [eventIf, hp, event_next _ _ h]

theorem eventIf_off (p : State → Bool) (f : State → State) (s : State) (hp : p s = false) : eventIf p f s = .next s := by
  simp [eventIf, hp]

theorem eventIf_inReset (p : State → Bool) (f : State → State) (s : State) (h : s.power.inReset = true) :
    eventIf p f s = .next s := by
  unfold eventIf
  split
  · exact event_inReset _ _ h
  · rfl

/-! ## Taking a frame (R168, R169, R171) -/

theorem State.arrive_waiting {s : State} (f : RequestFrame) (h : State → Answer) (hw : s.link.waiting.isSome = true) :
    s.arrive f h = s.countOverrun := by
  simp [State.arrive, hw]

theorem State.arrive_occupied {s : State} (f : RequestFrame) (h : State → Answer) (hw : s.link.waiting = none)
    (hs : s.link.replySlot.isSome = true) :
    s.arrive f h = { s with link := { s.link with waiting := some f } } := by
  simp [State.arrive, hw, hs]

theorem State.arrive_free {s : State} (f : RequestFrame) (h : State → Answer) (hw : s.link.waiting = none)
    (hs : s.link.replySlot = none) : s.arrive f h = s.take f h := by
  simp [State.arrive, hw, hs]

theorem State.take_repeat {s : State} {f : RequestFrame} {record : RecordState} (h : State → Answer)
    (hr : s.link.repeatOf f.seq f.check = some record) :
    s.take f h = { s with link := s.link.answerRepeat f.seq f.kind record } := by
  simp only [State.take, hr]

theorem State.take_new {s : State} {f : RequestFrame} (h : State → Answer)
    (hr : s.link.repeatOf f.seq f.check = none) :
    s.take f h = { (h s).1 with link := (h s).1.link.settleTaken f (h s).2 } := by
  simp only [State.take, hr]

/-- A request command that is taken and answered: its owner's state, with the reply placed and the record replaced, and
an IDLE transmitter beginning the reply. -/
theorem submit_answered {seq : Byte} {r : Request} {h : Half → State → Answer} {s t : State} {reply : Reply}
    (hr : r.wellFormed = true) (h0 : s.power.inReset = false) (hw : s.link.waiting = none)
    (hs : s.link.replySlot = none) (hn : s.link.repeatOf seq (requestFrame seq r.kind r.payload).check = none)
    (ha : h (requestFrame seq r.kind r.payload).check s = (t, some reply)) :
    submit seq r h s
      = .next { t with link := { t.link with
          replySlot := some { seq := seq, kind := r.kind, reply := reply }
          lastTaken := some
            { seq := seq, check := (requestFrame seq r.kind r.payload).check, state := .completed reply }
          tx := if t.link.tx = .idle then .sending (.reply { seq := seq, kind := r.kind, reply := reply })
            else t.link.tx } } := by
  simp only [submit, hr, if_true]
  rw [event_next _ _ h0, State.arrive_free _ _ hw hs, State.take_new _ hn, ha]
  simp only [Link.settleTaken]
  rw [State.transmit_reply (f := { seq := seq, kind := r.kind, reply := reply }) rfl]
  rfl

/-! ## Characters on TXD (R160) -/

@[simp] theorem characterLevels_length (b : Byte) : (characterLevels b).length = 10 := by simp [characterLevels]

@[simp] theorem TxFrame.levels_length (f : TxFrame) : f.levels.length = 10 * f.bytes.length := by
  simp [TxFrame.levels, List.length_flatMap, Nat.mul_comm]

/-- Bit time `n` of the `k`-th character. -/
theorem getElem?_flatMap_characterLevels {bytes : List Byte} {k n : Nat} {b : Byte} (hb : bytes[k]? = some b)
    (hn : n < 10) : (bytes.flatMap characterLevels)[10 * k + n]? = (characterLevels b)[n]? := by
  induction bytes generalizing k with
  | nil => simp at hb
  | cons x xs ih =>
    cases k with
    | zero =>
      obtain rfl := Option.some.inj hb
      rw [List.flatMap_cons, Nat.mul_zero, Nat.zero_add, List.getElem?_append_left (by simpa using hn)]
    | succ k =>
      rw [List.flatMap_cons, List.getElem?_append_right (by simp; omega), ← ih (by simpa using hb)]
      congr 1
      simp; omega

@[simp] theorem State.txd_of_idle {s : State} (h : s.link.tx = .idle) (n : Nat) : s.txd n = .high := by
  simp [State.txd, h]

theorem State.txd_of_sending {s : State} {f : TxFrame} {k n : Nat} {b : Byte} (hp : s.power.inReset = false)
    (htx : s.link.tx = .sending f) (hb : f.bytes[k]? = some b) (hn : n < 10) :
    (characterLevels b)[n]? = some (s.txd (10 * k + n)) := by
  have h := getElem?_flatMap_characterLevels hb hn
  have short : n < (characterLevels b).length := by simpa using hn
  simp only [State.txd, hp, htx, TxFrame.levels, List.getD_eq_getElem?_getD, h, List.getElem?_eq_getElem short]
  simp

end Sys2Proof.Machine
end

