-- ==== Sys2Proof/Laws/Ops.lean ====
section
/-! SUPPORT. What the shared operations can do, said once: the deferred AWAIT's test, the agenda's insertion and
removal, the fired history, an action on a line, and the raising of a notice. -/

namespace Sys2Proof.Machine

/-! ## The deferred AWAIT -/

theorem State.awaitTest_none {s : State} (ev : AwaitEvent) (h : s.link.awaiting = none) : s.awaitTest ev = s := by
  unfold State.awaitTest; rw [h]

/-- A test either answers the deferred request with OK, its condition being true, or changes nothing. -/
theorem State.awaitTest_cases (s : State) (ev : AwaitEvent) :
    s.awaitTest ev = s
      ∨ ∃ d, s.link.awaiting = some d ∧ d.condition.testedAt ev = true ∧ d.condition.holds s = true
        ∧ s.awaitTest ev = s.answerDeferred d .ok := by
  unfold State.awaitTest
  split
  · next d hd =>
    by_cases h : d.condition.testedAt ev && d.condition.holds s
    · right
      have h' := h
      rw [Bool.and_eq_true] at h'
      exact ⟨d, hd, h'.1, h'.2, by rw [if_pos h]⟩
    · left; rw [if_neg h]
  · left; rfl

/-- A request that has been answered waits no more (R187). -/
theorem State.awaiting_answerDeferred (s : State) (d : Deferred) (code : ResultCode) :
    (s.answerDeferred d code).link.awaiting = none := by
  simp [State.answerDeferred, Link.awaiting]

/-! ## The Edge Agenda -/

/-- An insertion adds the entry and nothing else. -/
theorem insertByDistance_perm (now : Stamp) (e : AgendaEntry) (l : List AgendaEntry) :
    (insertByDistance now e l).Perm (e :: l) := by
  induction l with
  | nil => exact List.Perm.refl _
  | cons x xs ih =>
    unfold insertByDistance
    split
    · exact (List.Perm.cons x ih).trans (List.Perm.swap e x xs)
    · exact List.Perm.refl _

@[simp] theorem insertByDistance_length (now : Stamp) (e : AgendaEntry) (l : List AgendaEntry) :
    (insertByDistance now e l).length = l.length + 1 := by
  simpa using (insertByDistance_perm now e l).length_eq

@[simp] theorem mem_insertByDistance (now : Stamp) (e x : AgendaEntry) (l : List AgendaEntry) :
    x ∈ insertByDistance now e l ↔ x = e ∨ x ∈ l := by
  rw [(insertByDistance_perm now e l).mem_iff, List.mem_cons]

/-- An insertion keeps the order by distance (R78, R80). -/
theorem insertByDistance_sorted (now : Stamp) (e : AgendaEntry) (l : List AgendaEntry)
    (h : l.Pairwise fun a b => distance a.due now ≤ distance b.due now) :
    (insertByDistance now e l).Pairwise fun a b => distance a.due now ≤ distance b.due now := by
  induction l with
  | nil => simp [insertByDistance]
  | cons x xs ih =>
    rw [List.pairwise_cons] at h
    unfold insertByDistance
    split
    · next hx =>
      rw [List.pairwise_cons]
      refine ⟨fun y hy => ?_, ih h.2⟩
      rcases (mem_insertByDistance now e y xs).1 hy with rfl | hy
      · exact hx
      · exact h.1 y hy
    · next hx =>
      rw [List.pairwise_cons, List.pairwise_cons]
      refine ⟨fun y hy => ?_, h⟩
      rcases List.mem_cons.1 hy with rfl | hy
      · omega
      · have := h.1 y hy; omega

@[simp] theorem mem_remove (a : Agenda) (tag : Half) (e : AgendaEntry) :
    e ∈ (a.remove tag).entries ↔ e ∈ a.entries ∧ e.tag ≠ tag := by
  simp [Agenda.remove]

@[simp] theorem mem_removeLine (a : Agenda) (i : LineId) (e : AgendaEntry) :
    e ∈ (a.removeLine i).entries ↔ e ∈ a.entries ∧ e.line ≠ i := by
  simp [Agenda.removeLine]

theorem Agenda.find_some {a : Agenda} {tag : Half} {e : AgendaEntry} (h : a.find tag = some e) :
    e ∈ a.entries ∧ e.tag = tag := by
  unfold Agenda.find at h
  exact ⟨List.mem_of_find?_eq_some h, by simpa using List.find?_some h⟩

theorem Agenda.find_none {a : Agenda} {tag : Half} (h : a.find tag = none) : ∀ e ∈ a.entries, e.tag ≠ tag := by
  unfold Agenda.find at h
  simpa using h

/-! ## Lines -/

@[simp] theorem Line.act_mode (a : LevelAction) (l : Line) : (l.act a).mode = l.mode := by
  unfold Line.act; split <;> rfl
@[simp] theorem Line.act_isDrive (a : LevelAction) (l : Line) : (l.act a).isDrive = l.isDrive := by
  unfold Line.isDrive; rw [Line.act_mode]
@[simp] theorem Line.act_frozen (a : LevelAction) (l : Line) : (l.act a).frozen = l.frozen := by
  unfold Line.act; split <;> rfl
@[simp] theorem Line.act_slotA (a : LevelAction) (l : Line) : (l.act a).slotA = l.slotA := by
  unfold Line.act; split <;> rfl
@[simp] theorem Line.act_slotB (a : LevelAction) (l : Line) : (l.act a).slotB = l.slotB := by
  unfold Line.act; split <;> rfl
@[simp] theorem Line.act_active (a : LevelAction) (l : Line) : (l.act a).active = l.active := by
  unfold Line.act; split <;> rfl
@[simp] theorem Line.act_takeover (a : LevelAction) (l : Line) : (l.act a).takeover = l.takeover := by
  unfold Line.act; split <;> rfl

/-- An action leaves which of the two levels is present as it is. -/
theorem Line.act_isSome (a : LevelAction) (l : Line) :
    (l.act a).level.isSome = l.level.isSome ∧ (l.act a).saved.isSome = l.saved.isSome := by
  unfold Line.act
  split
  · next v h => simp [h]
  · next h => simp [h]

/-! ## The Notice Queue -/

/-- A raise is an append, a count in the tail's NOTICE_LOST, a count outside the records, or nothing. -/
theorem NoticeQueue.raise_cases (q : NoticeQueue) (now : Stamp) (body : NoticeBody) :
    q.raise now body = q ∨ (∃ b, q.raise now body = q.append now b ∧ q.records.length ≤ 31)
      ∨ (∃ n ∈ q.records.getLast?, ∃ count, n.openLoss = some count
          ∧ q.raise now body = { q with records := q.records.dropLast ++ [n.withLoss (satInc32 count)] })
      ∨ q.raise now body = { q with pendingLost := satInc32 q.pendingLost } := by
  unfold NoticeQueue.raise
  split
  · split
    · next h => exact Or.inr (Or.inl ⟨body, rfl, Nat.le_of_lt h⟩)
    · unfold NoticeQueue.lose
      split
      · next m hm =>
        rw [Option.bind_eq_some_iff] at hm
        obtain ⟨n, hn, hc⟩ := hm
        rw [Option.map_eq_some_iff] at hc
        obtain ⟨count, hcount, rfl⟩ := hc
        exact Or.inr (Or.inr (Or.inl ⟨n, hn, count, hcount, rfl⟩))
      · split
        · next h => exact Or.inr (Or.inl ⟨_, rfl, by rw [h]; decide⟩)
        · exact Or.inr (Or.inr (Or.inr rfl))
  · exact Or.inl rfl

/-- A raise changes neither the mask, the interval nor the timer (R145, R150). -/
theorem NoticeQueue.raise_settings (q : NoticeQueue) (now : Stamp) (body : NoticeBody) :
    (q.raise now body).mask = q.mask ∧ (q.raise now body).interval = q.interval ∧ (q.raise now body).timer = q.timer := by
  rcases q.raise_cases now body with h | ⟨b, h, -⟩ | ⟨n, -, c, -, h⟩ | h <;> rw [h] <;> exact ⟨rfl, rfl, rfl⟩

end Sys2Proof.Machine
end

