-- ==== Sys2Proof/Tests/Slice0.lean ====
section
/-! SUPPORT. The author's tests: ill-formed terms, frame words written out from the manual, small runs of one command,
and for each statement with hypotheses a state and operands that meet them. -/

namespace Sys2Proof.Tests

open Sys2Proof.Machine Sys2Proof.Safety Sys2Proof.Claims

-- Each test waits for everything before it to be checked: one after the other, so that no thread stands waiting.
set_option Elab.async false

/-! ## Small states -/

/-- The state after a command that has one. -/
def run (c : Instr) (s : State) : State :=
  match exec c s with
  | .next t => t
  | .fault _ => s
  | .refused _ => s

/-- Why a command has no next state. -/
def refusal (c : Instr) (s : State) : Option Refusal :=
  match exec c s with
  | .next _ => none
  | .fault _ => none
  | .refused r => some r

/-- The result code in the reply slot. -/
def code (s : State) : Option ResultCode := s.link.replySlot.map (·.reply.code)

/-- The data in the reply slot. -/
def data (s : State) : Option ReplyData := s.link.replySlot.map (·.reply.data)

/-- No notice held, RUNNING with cycles of 4 ticks. -/
def running : State :=
  { State.reset with
    timebase := { Timebase.reset with state := .running, length := 4, offset := 1, time := 100 }
    notices := { NoticeQueue.empty with nextNseq := 5 } }

/-- TL3 in DRIVE at LOW, TL0 in CAPTURE with last sample LOW. -/
def lined : State :=
  let s := (running.setLine 3 (freshLine (.drive .low .forceHigh) false)).setLine 0 (freshLine (.capture .both 0) false)
  { s with qualifiers := s.qualifiers.set 0 { state := .waiting, last := some .low } }

/-- A pattern that SETs at the boundary and clears at offset 2. -/
def shape : Pattern := { boundary := .act .set, edges := [{ offset := 2, action := .clear }] }

/-- TL3's slot A is filled and waits to be taken over. -/
def patterned : State :=
  lined.setLine 3 { lined.line 3 with slotA := some shape, takeover := some .slotA }

/-- An agenda entry for TL3. -/
def entry (tag : Half) (due : Stamp) (action : Action) (phase : Phase) : AgendaEntry :=
  { tag := tag, line := 3, due := due, action := action, phase := phase, origin := .host, report := true }

/-- `lined` with agenda entries. -/
def scheduled (entries : List AgendaEntry) : State := { lined with agenda := { lined.agenda with entries := entries } }

/-- A rule from TL0 to TL3. -/
def ruleWith (status : RuleStatus) (action : Action) (delay : Span) (late : FollowLate) (retrigger : Retrigger) : FollowRule :=
  { status := status
    settings :=
      { source := 0, polarity := .either, target := 3, action := action, delay := delay, shots := 1
        retrigger := retrigger, late := late, report := true }
    shotsRemaining := 1, fires := 0, misses := 0 }

/-- `lined` with rule 2. -/
def following (r : FollowRule) : State := lined.setRule 2 (some r)

/-- `running` with notice records. -/
def noted (records : List Notice) : State := { running with notices := { running.notices with records := records } }

/-- A record; a NOTICE_LOST of 4, or HOLD_LEFT. -/
def record (nseq : Half) (lost sent mark : Bool) : Notice :=
  { content := { nseq := nseq, stamp := 7, body := if lost then .noticeLost 4 else .holdLeft }, sent := sent, mark := mark }

/-- 31 and 32 SENT records. -/
def full31 : List Notice := List.replicate 31 (record 0 false true false)
def full32 : List Notice := full31 ++ [record 31 true true false]

/-- A reply frame. -/
def frame (r : Reply) : ReplyFrame := { seq := 9, kind := 0x01, reply := r }

/-- The plain OK. -/
def plain : Reply := { code := .ok, data := .codeOnly }

/-- `running` with another link. -/
def linked (f : Link → Link) : State := { running with link := f running.link }

/-- An AWAIT that waits. -/
def deferredAwait (timer : Option Nat) : Deferred :=
  { seq := 4, check := 5, condition := .unreadAtLeast 2, timeoutMs := 1, timer := timer }

/-- `running` under hold. -/
def held (pin link : Bool) : State :=
  { lined with
    timebase := { lined.timebase with state := .held, reasons := ⟨pin, link⟩ }, lines := lined.lines.map Line.enterHold }

/-- A queue of captures of TL0 with consecutive numbers from 0. -/
def queueOf (n : Nat) : CaptureQueue :=
  { CaptureQueue.reset with
    entries := (List.range n).map fun k => .capture (BitVec.ofNat 16 k) 0 .rise 50 []
    nextQseq := BitVec.ofNat 16 n }

/-- `lined` with a queue. -/
def queued (q : CaptureQueue) : State := { lined with queue := q }

/-! ## Ill-formed terms -/

theorem test_writeSlot_of_80_edges_is_ill_formed :
    (Instr.writeSlot 1 3 1 5 (List.replicate 80 ⟨1, 0⟩)).wellFormed = false := by decide +kernel

theorem test_writeSlot_of_79_edges_is_well_formed :
    (Instr.writeSlot 1 3 1 5 (List.replicate 79 ⟨1, 0⟩)).wellFormed = true := by decide +kernel

theorem test_schedule_of_17_orders_is_ill_formed :
    (Instr.schedule 1 (List.replicate 17 ⟨1, 3, 5, 0, 0, 0, 0⟩)).wellFormed = false := by decide +kernel

theorem test_schedule_of_16_orders_is_well_formed :
    (Instr.schedule 1 (List.replicate 16 ⟨1, 3, 5, 0, 0, 0, 0⟩)).wellFormed = true := by decide +kernel

theorem test_unknownKind_of_a_known_kind_is_ill_formed : (Instr.unknownKind 1 0x20 []).wellFormed = false := by decide

theorem test_unknownKind_of_241_bytes_is_ill_formed :
    (Instr.unknownKind 1 0x3F (List.replicate 241 0)).wellFormed = false := by decide +kernel

/-- Each ill-formed term is refused. -/
theorem test_ill_formed_terms_are_refused :
    refusal (.writeSlot 1 3 1 5 (List.replicate 80 ⟨1, 0⟩)) lined = some .malformed
      ∧ refusal (.schedule 1 (List.replicate 17 ⟨1, 3, 5, 0, 0, 0, 0⟩)) lined = some .malformed
      ∧ refusal (.unknownKind 1 0x20 []) lined = some .malformed
      ∧ refusal (.unknownKind 1 0x3F (List.replicate 241 0)) lined = some .malformed := by decide +kernel

/-! ## Frames written out from the manual -/

theorem test_check_value_of_the_nine_bytes :
    checkValue [0x31, 0x32, 0x33, 0x34, 0x35, 0x36, 0x37, 0x38, 0x39] = 0x29B1 := by decide +kernel

theorem test_start_payload : parseRequest 0x08 [1] = .request (.start 1) := by decide +kernel

theorem test_setTimebase_payload :
    parseRequest 0x0A [3, 0x10, 0x27, 0, 0, 1] = .request (.setTimebase 3 10000 1) := by decide +kernel

theorem test_await_payload :
    parseRequest 0x03 [2, 1, 2, 3, 4, 5, 6, 0xF4, 0x01] = .request (.await 2 0x060504030201 500) := by decide +kernel

theorem test_setLine_payload :
    parseRequest 0x10 [5, 1, 2, 0xFF, 0x03, 0, 0] = .request (.setLine 5 1 2 1023 0 0) := by decide +kernel

theorem test_writeSlot_payload :
    parseRequest 0x14 [11, 2, 1, 100, 0, 0, 0x8A, 0x02, 1] = .request (.writeSlot 11 2 1 [⟨100, 0⟩, ⟨650, 1⟩]) := by
  decide +kernel

theorem test_readCaptures_payload :
    parseRequest 0x18 [1, 0x34, 0x12, 16] = .request (.readCaptures 1 0x1234 16) := by decide +kernel

theorem test_schedule_payload :
    parseRequest 0x20 [0x23, 0x01, 12, 0x60, 0xEA, 0, 0, 0, 0, 3, 8, 0, 0, 1, 1]
      = .request (.schedule [⟨0x0123, 12, 60000, 3, 8, 1, 1⟩]) := by decide +kernel

theorem test_setFollow_payload :
    parseRequest 0x28 [2, 3, 0, 9, 3, 0xF4, 1, 0, 0xD0, 7, 0, 0, 0, 0, 0, 1]
      = .request (.setFollow 2 ⟨3, 0, 9, 3, 500, 2000, 0, 0, 0, 1⟩) := by decide +kernel

theorem test_ackNotices_payload : parseRequest 0x30 [0x83, 0] = .request (.ackNotices 131) := by decide +kernel

theorem test_lengths_that_do_not_suit :
    parseRequest 0x04 [0] = .badLength ∧ parseRequest 0x20 [1] = .badLength ∧ parseRequest 0x14 [1, 2] = .badLength
      ∧ parseRequest 0x3F [] = .unknownKind := by decide +kernel

/-- HOLD with SEQ 7, character by character, is taken and answered. -/
theorem test_characters_of_a_hold_frame :
    let s := ([0xC3, 0, 7, 0x0B] ++ bytes16 (checkValue [0, 7, 0x0B])).foldl
      (fun s b => run (.characterReceived b true 0) s) running
    s.timebase.reasons = ⟨false, true⟩ ∧ code s = some .ok ∧ s.link.rx = .hunt := by decide +kernel

/-- The layouts of one record of each kind. -/
theorem test_records :
    (QueueEntry.capture 7 3 .rise 120000 [0, 2]).bytes = [0, 7, 0, 3, 0, 0x05, 0xC0, 0xD4, 1, 0, 0, 0]
      ∧ (QueueEntry.gap 356 3 8996).bytes = [1, 0x64, 1, 3, 0, 0, 0, 0x24, 0x23, 0, 0, 0, 0]
      ∧ (entry 0x0300 40015 (.pulse .high 5) .trail).bytes
          = [0, 3, 3, 0x4F, 0x9C, 0, 0, 0, 0, 3, 5, 0, 0, 1, 0, 1]
      ∧ (running.lineRecord 3).bytes = [0, 0, 0, 0, 0, 0xFF, 0, 0xFF]
      ∧ (TxFrame.firstSending { nseq := 0x0102, stamp := 9, body := .holdEntered ⟨true, false⟩ }).payload
          = [2, 1, 9, 0, 0, 0, 0, 0, 1] := by decide +kernel

theorem test_record_of_a_drive_line :
    (lined.lineRecord 3).bytes = [2, 0, 2, Config.driveRecordByte3 0 2, 0, 0xFF, 0, 0xFF] := by rfl

/-- The start byte 0xC3 on the line, bit by bit; with its stop bit found low; and a break. -/
theorem test_characters_on_the_line :
    characterLevels 0xC3 = [.low, .high, .high, .low, .low, .low, .low, .high, .high, .high]
      ∧ readCharacter [.low, .high, .high, .low, .low, .low, .low, .high, .high, .high] = some (0xC3, true)
      ∧ readCharacter [.low, .high, .high, .low, .low, .low, .low, .high, .high, .low] = some (0xC3, false)
      ∧ readCharacter (List.replicate 10 .low) = some (0, false) ∧ readCharacter (List.replicate 10 .high) = none := by
  decide +kernel

/-- TXD of a frame in transmission: its start byte, and high after its last stop bit and while idle. -/
theorem test_txd :
    let s := linked fun l => { l with tx := .sending (.reply (frame plain)) }
    (List.range 10).map s.txd = characterLevels 0xC3 ∧ s.txd 60 = .low ∧ s.txd 69 = .high ∧ s.txd 70 = .high
      ∧ running.txd 0 = .high := by decide +kernel

/-! ## One command on a small state -/

theorem test_queue_front_runs_first :
    step { running with pending := [.overrun, .powerUp] } = exec .overrun { running with pending := [.powerUp] } := rfl

theorem test_no_word_spells_a_command : running.withFetchWord 8 5 = running ∧ decodeTableWord 8 5 = none := ⟨rfl, rfl⟩

theorem test_identify : code (run (.identify 1) running) = some .ok
    ∧ (run (.identify 1) running).link.tx = .sending (.reply ⟨1, 0x01, ⟨.ok, .identity⟩⟩) := by decide +kernel

theorem test_status_clears :
    (run (.status 1 1) (linked fun l => { l with counters := { l.counters with crc := 3 } })).link.counters = .zero
      ∧ code (run (.status 1 2) running) = some .badField := by decide +kernel

theorem test_await_branches :
    code (run (.await 1 4 0 1) running) = some .badField ∧ code (run (.await 1 1 257 1) running) = some .badField
      ∧ code (run (.await 1 1 1 0) running) = some .badField ∧ code (run (.await 1 3 0 60001) running) = some .badField
      ∧ code (run (.await 1 3 0 60000) running) = some .ok ∧ code (run (.await 1 1 1 60000) running) = none
      ∧ (run (.await 1 1 256 1) running).link.awaiting.isSome = true
      ∧ code (run (.await 1 3 0 1) (linked fun l => { l with deferred := some (deferredAwait (some 0)) })) = some .busy := by
  decide +kernel

theorem test_restart : (run (.restart 1) running).link.restartPending = true
    ∧ (run (.replyComplete 0) (run (.restart 1) running)).notices.records
        = [record 1 false false false].map fun n => { n with content := ⟨1, 0, .restarted .restartRequest⟩ } := by
  decide +kernel

theorem test_start :
    (run (.start 1 1) State.reset).timebase.state = .running ∧ code (run (.start 1 2) State.reset) = some .badField
      ∧ code (run (.start 1 0) running) = some .wrongState
      ∧ code (run (.start 1 1) { scheduled [entry 1 200 (.single .set) .lead] with timebase := Timebase.reset })
          = some .wrongState := by decide +kernel

theorem test_stop : (run (.stop 1) running).timebase.state = .stopped
    ∧ data (run (.stop 1) running) = some (.stop 100 1 0) := by decide +kernel

theorem test_setTimebase :
    (run (.setTimebase 1 0 2 0) running).timebase.staged = some 2 ∧ code (run (.setTimebase 1 1 2 0) running) = some .wrongState
      ∧ (run (.setTimebase 1 8 65536 1) State.reset).timebase.length = 65536
      ∧ code (run (.setTimebase 1 9 2 0) State.reset) = some .badField
      ∧ code (run (.setTimebase 1 0 1 0) State.reset) = some .badField
      ∧ code (run (.setTimebase 1 0 65537 0) State.reset) = some .badField := by decide +kernel

theorem test_hold_and_resume :
    (run (.hold 1) lined).timebase.state = .held ∧ (run (.hold 1) lined).pinShown 3 = some .high
      ∧ (run (.resume 1) (held false true)).timebase.state = .running
      ∧ ((run (.resume 1) (held false true)).line 3).level = some .low := by decide +kernel

theorem test_setLine :
    code (run (.setLine 1 16 0 0 0 0 0) lined) = some .badField ∧ code (run (.setLine 1 1 1 2 1024 0 0) lined) = some .badField
      ∧ ((run (.setLine 1 1 1 2 1023 9 9) lined).line 1).mode = .capture .both 1023
      ∧ data (run (.setLine 1 3 2 0 0 1 0) (scheduled [entry 1 200 (.single .set) .lead])) = some (.voided 1) := by
  decide +kernel

theorem test_readLines :
    ((run (.readLines 1 2) lined).link.replySlot.map fun f => f.reply.data) =
      some (.lines (lineIds.map fun i => if i = 3 then (lined.lineRecord 3)
        else { lined.lineRecord i with pin := if i = 1 then .high else .low })) := by decide +kernel

theorem test_writeSlot :
    ((run (.writeSlot 1 3 1 0 [⟨3, 1⟩]) lined).line 3).takeover = some .slotA
      ∧ data (run (.writeSlot 1 3 1 0 [⟨1, 1⟩, ⟨4, 1⟩]) lined) = some (.offsetError 1 4)
      ∧ code (run (.writeSlot 1 0 1 0 []) lined) = some .lineMode
      ∧ code (run (.writeSlot 1 3 1 0 [⟨1, 1⟩, ⟨1, 1⟩]) lined) = some .badField := by decide +kernel

theorem test_clearPattern : ((run (.clearPattern 1 3) patterned).line 3).takeover = some .noSlot
    ∧ code (run (.clearPattern 1 0) patterned) = some .lineMode := by decide +kernel

theorem test_readCaptures :
    (run (.readCaptures 1 0 0 16) (queued (queueOf 3))).queue.readPointer = 3
      ∧ data (run (.readCaptures 1 1 2 1) (queued (queueOf 3)))
          = some (.captures false [.capture 2 0 .rise 50 []])
      ∧ code (run (.readCaptures 1 1 3 1) (queued (queueOf 3))) = some .notInQueue
      ∧ code (run (.readCaptures 1 0 0 17) (queued (queueOf 3))) = some .badField := by decide +kernel

theorem test_releaseCaptures :
    code (run (.releaseCaptures 1 0) (queued (queueOf 3))) = some .notRead
      ∧ code (run (.releaseCaptures 1 3) (queued (queueOf 3))) = some .notInQueue
      ∧ data (run (.releaseCaptures 1 1) (queued { queueOf 3 with readPointer := 2, loss := some ⟨5, 60⟩ }))
          = some (.released 2 2) := by decide +kernel

theorem test_setQueue : (run (.setQueue 1 256) running).queue.watermark = 256
    ∧ code (run (.setQueue 1 257) running) = some .badField := by decide +kernel

theorem test_schedule :
    (run (.schedule 1 [⟨7, 3, 110, 3, 5, 1, 1⟩]) lined).agenda.entries = [entry 7 110 (.pulse .high 5) .lead]
      ∧ ((run (.schedule 1 [⟨7, 3, 90, 0, 0, 0, 1⟩]) lined).line 3).level = some .high
      ∧ data (run (.schedule 1 [⟨7, 3, 110, 0, 0, 0, 1⟩, ⟨8, 3, 90, 0, 0, 1, 1⟩]) lined) = some (.scheduleError 1 64)
      ∧ code (run (.schedule 1 []) lined) = some .badField := by decide +kernel

theorem test_cancel :
    code (run (.cancel 1 7 0) (scheduled [entry 7 110 (.single .set) .lead])) = some .cancelled
      ∧ ((run (.cancel 1 7 1) (scheduled [entry 7 110 (.pulse .low 5) .trail])).line 3).level = some .high
      ∧ code (run (.cancel 1 0xF007 0) lined) = some .notFound ∧ code (run (.cancel 1 0xF008 0) lined) = some .tagReserved := by
  decide +kernel

theorem test_cancelLine :
    data (run (.cancelLine 1 3) (scheduled [entry 7 110 (.single .set) .lead])) = some (.removed 1) := by decide +kernel

theorem test_listAgenda :
    data (run (.listAgenda 1 0 12) (scheduled [entry 7 110 (.single .set) .lead]))
        = some (.agenda 100 1 [entry 7 110 (.single .set) .lead])
      ∧ code (run (.listAgenda 1 0 13) lined) = some .badField := by decide +kernel

theorem test_follow_requests :
    ((run (.setFollow 1 2 ⟨0, 2, 3, 0, 0, 9, 1, 0, 0, 1⟩) lined).rule 2).isSome = true
      ∧ code (run (.setFollow 1 2 ⟨3, 2, 3, 0, 0, 9, 1, 0, 0, 1⟩) lined) = some .badField
      ∧ code (run (.armFollow 1 2) lined) = some .wrongState
      ∧ ((run (.armFollow 1 2) (following (ruleWith .spent (.single .set) 9 .miss .ignore))).rule 2).map (·.status) = some .armed
      ∧ ((run (.disarmFollow 1 2) (following (ruleWith .armed (.single .set) 9 .miss .ignore))).rule 2).map (·.status)
          = some .disarmed
      ∧ (run (.clearFollow 1 2) (following (ruleWith .armed (.single .set) 9 .miss .ignore))).rule 2 = none
      ∧ code (run (.readFollow 1 8) lined) = some .badField := by decide +kernel

theorem test_ackNotices :
    code (run (.ackNotices 1 3) (noted [record 3 false true false])) = some .ok
      ∧ code (run (.ackNotices 1 3) (noted [record 3 false false false])) = some .notSent
      ∧ code (run (.ackNotices 1 4) (noted [record 3 false true false])) = some .notFound := by decide +kernel

theorem test_setNotices : (run (.setNotices 1 3 0) (noted [record 3 false true true])).notices.records
    = [record 3 false true false] := by decide +kernel

theorem test_other_arrivals :
    code (run (.unknownKind 1 0x3F [2]) running) = some .unknownKind
      ∧ (run (.duplicateFrame 0x01) (linked fun l => { l with lastTaken := some ⟨1, 2, .completed plain⟩ })).link.counters.duplicate
          = 1
      ∧ (run .overrun (linked fun l => { l with waiting := some ⟨1, 2, [], 3⟩ })).link.counters.overrun = 1 := by
  decide +kernel

theorem test_receiver_discards :
    (run (.frameDiscard .badStop) (linked fun l => { l with rx := .len })).link.counters.framing = 1
      ∧ (run .byteGapExpiry (linked fun l => { l with rx := .len })).link.rx = .hunt
      ∧ (run (.characterReceived 241 true 0) (linked fun l => { l with rx := .len })).link.counters.length = 1
      ∧ (run (.characterReceived 240 true 0) (linked fun l => { l with rx := .len })).link.rx = .header 240 none := by
  decide +kernel

theorem test_completions :
    (run (.replyComplete 0) (run (.identify 1) running)).link.replySlot = none
      ∧ (run .deferredReplyComplete (linked fun l => { l with
          tx := .sending (.deferredReply (frame plain)), deferredSlot := some (frame plain)
          deferred := some (deferredAwait none) })).link.deferred = none
      ∧ (run .noticeFrameComplete (run (.holdPinAsserted) running)).notices.timer = some 0
      ∧ (run .repeatFrameComplete (linked fun l => { l with tx := .sending (.repeatSending ⟨1, 2, .holdLeft⟩) })).link.tx
          = .idle := by decide +kernel

theorem test_service_timers :
    (run .awaitTimeout (linked fun l => { l with deferred := some (deferredAwait (some 0)) })).link.deferredSlot.map
        (·.reply.code) = some .timeout
      ∧ (run .repeatTimerExpiry { noted [record 3 false true false] with
          notices := { (noted [record 3 false true false]).notices with timer := some 7 } }).notices.timer = some 0 := by
  decide +kernel

theorem test_hold_pin : (run .holdPinAsserted lined).timebase.reasons = ⟨true, false⟩
    ∧ (run .holdPinReleased (held true true)).timebase.reasons = ⟨false, true⟩ := by decide +kernel

theorem test_tick : (run (.tick 0) lined).timebase.time = 101 ∧ (run (.tick 1) lined).queue.entries
    = [.capture 0 0 .rise 101 []] := by decide +kernel

theorem test_cycleBoundary :
    let s := { patterned with timebase := { patterned.timebase with offset := 3 } }
    (run (.cycleBoundary 0) s).timebase.offset = 0 ∧ ((run (.cycleBoundary 0) s).line 3).level = some .high
      ∧ run (.cycleBoundary 0) patterned = patterned := by decide +kernel

theorem test_expiries :
    ((run (.expireSingleAction 7 0) (scheduled [entry 7 101 (.single .set) .lead])).line 3).level = some .high
      ∧ (run (.expirePulseLead 7 0) (scheduled [entry 7 101 (.pulse .high 5) .lead])).agenda.entries
          = [entry 7 106 (.pulse .high 5) .trail]
      ∧ (run (.expirePulseTrail 7 0) (scheduled [entry 7 101 (.pulse .high 5) .trail])).agenda.history = [7] := by
  decide +kernel

theorem test_captureQualified :
    (run (.captureQualified 0 1) (following (ruleWith .armed (.single .set) 9 .miss .ignore))).queue.entries
        = [.capture 0 0 .rise 101 [2]]
      ∧ run (.captureQualified 0 0) lined = lined := by decide +kernel

theorem test_resets :
    (run .powerUp running).power = ⟨true, false, false, true⟩ ∧ (run .resetAsserted running).attn = false
      ∧ (run .vddBelowThreshold running).power.vddLow = true
      ∧ (run (.resetEnd true false false) (run .powerUp running)).link.rate = .r1000000
      ∧ (run (.resetEnd true false false) (run .resetAsserted running)).notices.records
          = [⟨⟨1, 0, .restarted .resetPin⟩, false, false⟩] := by decide +kernel

theorem test_idle_clock : step running = .next { running with timebase := { running.timebase with count := 1 } } := rfl

/-! ## States and operands that meet the hypotheses of each statement -/

/-- Part of what follows: the small states take any request (no frame waits, none repeats). -/
theorem takes_of_reset_link {s : State} (hl : s.link = .reset .r115200) (hp : s.power = .reset) (seq : Byte) (r : Request) :
    Takes s seq r := by
  refine ⟨by rw [hp]; rfl, by rw [hl]; rfl, by rw [hl]; rfl, ?_⟩
  rw [hl]; rfl

theorem takes_running (seq : Byte) (r : Request) : Takes running seq r := takes_of_reset_link rfl rfl seq r

theorem takes_lined (seq : Byte) (r : Request) : Takes lined seq r := takes_of_reset_link rfl rfl seq r

theorem takes_held (pin link : Bool) (seq : Byte) (r : Request) : Takes (held pin link) seq r :=
  takes_of_reset_link rfl rfl seq r

theorem witness_FrontCommandRunsOnTheRest : { running with pending := [.overrun, .powerUp] }.pending = .overrun :: [.powerUp] :=
  rfl

theorem witness_CommandsCompleteAndKeepTheQueue :
    (Instr.schedule 1 []).wellFormed = true ∧ (Instr.unknownKind 1 0x01 []).wellFormed = false := by decide +kernel

theorem witness_ArrivalsThatAreNotTaken :
    Request.identify.wellFormed = true ∧ running.power.inReset = false
      ∧ (linked fun l => { l with waiting := some ⟨1, 2, [], 3⟩ }).link.waiting.isSome = true
      ∧ ((linked fun l => { l with replySlot := some (frame plain) }).link.waiting = none
        ∧ (linked fun l => { l with replySlot := some (frame plain) }).link.replySlot.isSome = true)
      ∧ (let s := linked fun l => { l with lastTaken := some ⟨1, (frameOf 1 .identify).check, .completed plain⟩ };
        s.link.waiting = none ∧ s.link.replySlot = none
          ∧ s.link.lastTaken = some { seq := 1, check := (frameOf 1 .identify).check, state := .completed plain })
      ∧ (let s := linked fun l => { l with lastTaken := some ⟨1, (frameOf 1 .identify).check, .deferred⟩ };
        s.link.lastTaken = some { seq := 1, check := (frameOf 1 .identify).check, state := .deferred }) := by decide +kernel

theorem witness_PayloadReadsBack :
    (Request.schedule (List.replicate 16 ⟨1, 3, 5, 0, 0, 0, 0⟩)).wellFormed = true
      ∧ (Request.writeSlot 1 3 1 (List.replicate 79 ⟨1, 0⟩)).wellFormed = true ∧ Request.stop.wellFormed = true := by
  decide +kernel

theorem witness_CharactersDeliverTheFrame : Request.hold.wellFormed = true ∧ running.link.rx = .hunt := by decide +kernel

/-- A frame of seven bytes in transmission, its first character and its last. -/
theorem witness_CharactersDeliverTheFrame_line :
    let f : TxFrame := .reply (frame plain)
    let s := linked fun l => { l with tx := .sending f }
    s.power.inReset = false ∧ s.link.tx = .sending f ∧ f.bytes.length = 7 ∧ f.bytes[0]? = some 0xC3 ∧ f.bytes[6]?.isSome = true
      ∧ running.link.tx = .idle := by decide +kernel

theorem witness_AcceptanceChecks :
    (List.replicate 240 (0 : Byte)).length ≤ 240 ∧ parseRequest 0x20 (List.replicate 240 0) ≠ .badLength
      ∧ parseRequest 0x20 (List.replicate 239 0) = .badLength ∧ parseRequest 0x00 [] = .unknownKind := by decide +kernel

theorem witness_IdentifyReportsThePart : Takes running 1 .identify
    ∧ (let s := linked fun l => { l with lastTaken := some ⟨1, (frameOf 1 .identify).check, .completed plain⟩ };
      s.power.inReset = false ∧ s.link.waiting = none ∧ s.link.replySlot = none
        ∧ s.link.lastTaken = some { seq := 1, check := (frameOf 1 .identify).check, state := .completed plain }) :=
  ⟨takes_running _ _, rfl, rfl, rfl, rfl⟩

theorem witness_FrameCheckSteps :
    (linked fun l => { l with rx := .check 1 0x01 [] (some 0) }).link.rx = .check 1 0x01 [] (some 0)
      ∧ frameCheck 1 0x01 [] ≠ (0 : Byte) ++ (0 : Byte) := by decide +kernel

theorem witness_ReadRequestsReportAndChangeNothing :
    Takes lined 1 .readLines ∧ Takes lined 1 (.listAgenda 0 12) ∧ Takes lined 1 (.readFollow 7) :=
  ⟨takes_lined _ _, takes_lined _ _, takes_lined _ _⟩

theorem witness_StatusSnapshotsThenClears : Takes lined 1 (.status 1) := takes_lined _ _

theorem witness_AwaitConditions :
    3 < (4 : Byte).toNat
      ∧ classify 100 100 = .late ∧ classify (100 - (2 ^ 40 - 1)) 100 = .late
      ∧ classify 101 100 = .future ∧ classify (100 + (2 ^ 40 - 1)) 100 = .future
      ∧ classify (100 + 2 ^ 40) 100 = .beyond ∧ classify (100 - 2 ^ 40) 100 = .beyond := by decide +kernel

/-- An AWAIT for the hold to clear, deferred with its timer running, in a state without a hold reason. -/
def awaitingHold : State :=
  linked fun l => { l with deferred := some { deferredAwait (some 0) with condition := .holdClear } }

theorem test_awaitTest :
    (awaitingHold.awaitTest .holdCleared).link.deferredSlot.map (·.reply) = some (okay (.await 100 0))
      ∧ awaitingHold.awaitTest .tick = awaitingHold := by decide +kernel

theorem witness_AwaitAnswersOrDefers :
    Takes lined 1 (.await 1 1 60000)
      ∧ (awaitingHold.link.deferred = some { deferredAwait (some 0) with condition := .holdClear }
        ∧ testedBy .holdClear .holdCleared ∧ AwaitCondition.holdClear.holds awaitingHold = true)
      ∧ (testedBy (.agendaEmpty none) (.removal 15) ∧ testedBy (.agendaEmpty (some 15)) (.removal 15)
        ∧ testedBy (.unreadAtLeast 256) .append ∧ testedBy (.timeReached 5) .tick ∧ testedBy (.timeReached 5) .startZero)
      ∧ (lined.link.deferred = none ∧ ¬ testedBy .holdClear .tick ∧ ¬ testedBy (.agendaEmpty (some 14)) (.removal 15)) := by
  refine ⟨takes_lined _ _, ⟨rfl, rfl, by decide +kernel⟩, ?_, rfl, ?_⟩ <;> simp [testedBy]

theorem witness_RestartAnswersThenResets :
    Takes running 1 .restart
      ∧ (let s := linked fun l => { l with restartPending := true, tx := .sending (.reply (frame plain)) };
        s.power.inReset = false ∧ s.link.restartPending = true ∧ s.link.tx = .sending (.reply (frame plain))) :=
  ⟨takes_running _ _, rfl, rfl, rfl⟩

theorem witness_HardwareResetBeginsAndEnds :
    (run .powerUp running).power.inReset = true ∧ (run .powerUp running).power.vddLow = false
      ∧ (run .resetAsserted running).power.inReset = true ∧ (run .resetAsserted running).power.vddLow = false := by
  decide +kernel

theorem witness_StartSetsTimeGoing : Takes State.reset 1 (.start 1) := takes_of_reset_link rfl rfl _ _

theorem witness_StopHaltsTime : Takes lined 1 .stop := takes_lined _ _

theorem witness_SetTimebaseAppliesOrStages : Takes lined 1 (.setTimebase 0 65536 1) := takes_lined _ _

theorem witness_HoldIsEntered :
    lined.timebase.reasons = ⟨false, false⟩ ∧ Takes lined 1 .hold ∧ lined.power.inReset = false :=
  ⟨rfl, takes_lined _ _, rfl⟩

theorem witness_HoldIsLeft :
    (held false true).timebase.reasons = ⟨false, true⟩ ∧ Takes (held false true) 1 .resume
      ∧ (held true false).timebase.reasons = ⟨true, false⟩ ∧ (held true false).power.inReset = false :=
  ⟨rfl, takes_held _ _ _ _, rfl, rfl⟩

theorem witness_OtherReasonChangesDoNothingElse :
    ((held true false).timebase.reasons.pin = true ∧ Takes (held true false) 1 .hold)
      ∧ ((held true true).timebase.reasons.pin = true ∧ Takes (held true true) 1 .resume)
      ∧ (lined.timebase.reasons.link = false ∧ Takes lined 1 .resume)
      ∧ ((held false true).timebase.reasons = ⟨false, true⟩ ∧ (held false true).power.inReset = false)
      ∧ ((held true true).timebase.reasons = ⟨true, true⟩ ∧ (held true true).power.inReset = false) :=
  ⟨⟨rfl, takes_held _ _ _ _⟩, ⟨rfl, takes_held _ _ _ _⟩, ⟨rfl, takes_lined _ _⟩, ⟨rfl, rfl⟩, ⟨rfl, rfl⟩⟩

/-- `held` with the guard ON. -/
def guardedState : State := { held true false with timebase := { (held true false).timebase with holdGuard := true } }

theorem witness_HoldGuardRefuses :
    (guardedInRange (.cancelLine 15) = some true ∧ guardedInRange (.cancelLine 16) = some false
      ∧ guardedInRange (.releaseCaptures 0) = some true
      ∧ guardedInRange (.schedule (List.replicate 8 ⟨1, 3, 5, 0, 0, 0, 0⟩)) = some true
      ∧ guardedInRange (.schedule (List.replicate 9 ⟨1, 3, 5, 0, 0, 0, 0⟩)) = some false
      ∧ guardedInRange (.schedule [⟨1, 16, 5, 0, 0, 0, 0⟩]) = some false)
      ∧ (Request.cancelLine 15).wellFormed = true ∧ guardedState.timebase.holdGuard = true
      ∧ guardedState.timebase.reasons ≠ ⟨false, false⟩ ∧ Takes guardedState 1 (.cancelLine 15) :=
  ⟨by decide +kernel, by decide +kernel, rfl, by decide, takes_of_reset_link rfl rfl _ _⟩

/-- `lined` one tick before a boundary. -/
def beforeBoundary : State := { lined with timebase := { lined.timebase with offset := 3 } }

theorem witness_TickTakesItsPartsInOrder :
    lined.power.inReset = false ∧ lined.timebase.state = .running
      ∧ beforeBoundary.timebase.length ≤ beforeBoundary.timebase.offset + 1 := by decide +kernel

theorem witness_ExpiriesInAgendaOrder :
    ∀ e ∈ [entry 7 101 (.single .set) .lead, entry 8 101 (.pulse .high 5) .lead, entry 9 101 (.pulse .low 5) .trail],
      let s := scheduled
        [entry 7 101 (.single .set) .lead, entry 8 101 (.pulse .high 5) .lead, entry 9 101 (.pulse .low 5) .trail]
      s.power.inReset = false ∧ s.timebase.state = .running ∧ (s.agenda.entries.map (·.tag)).Nodup
        ∧ e ∈ s.agenda.entries ∧ e.due = s.timebase.time + 1 := by decide +kernel

theorem witness_FiredHistoryKeepsSixteen :
    let history := (List.range 16).map (BitVec.ofNat 16)
    history.length ≤ 16 ∧ history.Nodup ∧ (15 : Half) ∈ history ∧ (16 : Half) ∉ history := by decide +kernel

theorem witness_DriveLineLevels :
    (LinesOk lined ∧ (lined.line 3).mode = .drive .low .forceHigh ∧ lined.power.inReset = false ∧ lined.inHold = false)
      ∧ (LinesOk (held true false) ∧ ((held true false).line 3).mode = .drive .low .forceHigh
        ∧ (held true false).power.inReset = false ∧ (held true false).inHold = true) := by decide +kernel

theorem witness_SetLineChecksAndReconfigures :
    (Takes lined 1 (.setLine 15 1 2 1023 0 0) ∧ readLine 15 = some 15
      ∧ readMode 1 2 1023 0 0 = some (.capture .both 1023) ∧ lined.timebase.holdGuard = false)
      ∧ 2 < (3 : Byte).toNat ∧ 16 ≤ (16 : Byte).toNat ∧ readMode 1 2 1024 0 0 = none :=
  ⟨⟨takes_lined _ _, by decide, by decide, rfl⟩, by decide, by decide, by decide⟩

theorem witness_SlotRequestsSetTheTakeover :
    (readLine 3 = some 3 ∧ lined.timebase.holdGuard = false ∧ readPattern 0 [⟨2, 1⟩] = some shape
      ∧ Takes lined 1 (.writeSlot 3 1 0 [⟨2, 1⟩]) ∧ Takes lined 1 (.writeSlot 3 2 0 [⟨2, 1⟩]) ∧ Takes lined 1 (.clearPattern 3))
      ∧ (Takes lined 1 (.writeSlot 16 1 0 []) ∧ Takes lined 1 (.writeSlot 3 3 0 []) ∧ Takes lined 1 (.writeSlot 3 1 3 [])
        ∧ Takes lined 1 (.clearPattern 16))
      ∧ ((Request.writeSlot 3 1 3 []).wellFormed = true ∧ 16 ≤ (16 : Byte).toNat ∧ readPattern 3 [] = none
        ∧ readPattern 5 (List.replicate 7 ⟨0, 0⟩) = none) :=
  ⟨⟨by decide, rfl, by decide, takes_lined _ _, takes_lined _ _, takes_lined _ _⟩,
    ⟨takes_lined _ _, takes_lined _ _, takes_lined _ _, takes_lined _ _⟩, by decide +kernel⟩

theorem witness_PatternStepsOfALine : (patterned.line 3).isDrive = true := by decide +kernel

theorem witness_QualifierTakesASample :
    (edgeOf .low .high = some .rise ∧ CapturePolarity.rise.accepts .rise = true ∧ CapturePolarity.fall.accepts .rise = false)
      ∧ 2 ≤ 2
      ∧ (Qualifier.sample ⟨.qualifying .rise 90 2, some .high⟩ .rise 5 100 .high).1.state = .qualifying .rise 90 1
      ∧ (Qualifier.sample ⟨.qualifying .rise 90 1, some .high⟩ .rise 5 100 .high).2 = some (.rise, 90) := by decide +kernel

theorem witness_CapturesAreHandedOverInLineOrder :
    lined.power.inReset = false ∧ lined.timebase.state = .running ∧ (lined.line 0).mode = .capture .both 0
      ∧ ((lined.qualifiers.get 0).sample .both 0 (lined.timebase.time + 1)
          (if (1 : Half).getLsbD (0 : LineId).val then .high else .low)).2 = some (.rise, 101) := by decide +kernel

theorem witness_QueueTakesCaptures :
    (queued (queueOf 255)).queue.entries.length < 256
      ∧ ((queued (queueOf 256)).queue.entries.length = 256 ∧ (queued (queueOf 256)).queue.loss = none)
      ∧ ((queued { queueOf 256 with loss := some ⟨4294967295, 3⟩ }).queue.entries.length = 256
        ∧ (queued { queueOf 256 with loss := some ⟨4294967295, 3⟩ }).queue.loss = some ⟨4294967295, 3⟩) := by
  decide +kernel

theorem witness_ReadCapturesReturnsARun : Takes (queued (queueOf 3)) 1 (.readCaptures 1 2 16) :=
  takes_of_reset_link rfl rfl _ _

theorem witness_ReleaseCapturesRemovesReadEntries :
    Takes (queued { queueOf 3 with readPointer := 3 }) 1 (.releaseCaptures 2)
      ∧ (queued { queueOf 3 with readPointer := 3 }).timebase.holdGuard = false :=
  ⟨takes_of_reset_link rfl rfl _ _, rfl⟩

theorem witness_ScheduleCarriesOutItsBatch :
    Takes lined 1 (.schedule [⟨7, 3, 101, 3, 5, 0, 1⟩, ⟨8, 3, 100, 0, 0, 0, 1⟩])
      ∧ [(⟨7, 3, 101, 3, 5, 0, 1⟩ : RawOrder), ⟨8, 3, 100, 0, 0, 0, 1⟩].map readOrder
          = [(⟨7, 3, 101, .pulse .high 5, true, true⟩ : Order), ⟨8, 3, 100, .single .set, true, true⟩].map some
      ∧ lined.timebase.holdGuard = false
      ∧ batchFault lined [⟨7, 3, 101, .pulse .high 5, true, true⟩, ⟨8, 3, 100, .single .set, true, true⟩] = none :=
  ⟨takes_lined _ _, by decide, rfl, by decide +kernel⟩

/-- Entries at distances 10, 10 and 11. -/
theorem witness_ScheduleCarriesOutItsBatch_order :
    [entry 1 110 (.single .set) .lead, entry 2 110 (.single .set) .lead, entry 3 111 (.single .set) .lead].Pairwise
      fun a b => distance a.due 100 ≤ distance b.due 100 := by decide +kernel

/-- 64 entries held. -/
def fullAgenda : State := scheduled ((List.range 64).map fun k => entry (BitVec.ofNat 16 k) 200 (.single .set) .lead)

/-- A list too short, one too long, and one whose second order is out of range. -/
theorem witness_ScheduleChecks_range :
    (Takes lined 1 (.schedule []) ∧ Takes lined 1 (.schedule (List.replicate 9 ⟨1, 3, 5, 0, 0, 0, 0⟩))
      ∧ Takes lined 1 (.schedule [⟨7, 15, 101, 4, 1, 1, 1⟩, ⟨8, 16, 101, 0, 0, 0, 0⟩]))
      ∧ ((Request.schedule (List.replicate 9 ⟨1, 3, 5, 0, 0, 0, 0⟩)).wellFormed = true
        ∧ (readOrder ⟨7, 15, 101, 4, 1, 1, 1⟩).isSome = true ∧ readOrder ⟨8, 16, 101, 0, 0, 0, 0⟩ = none
        ∧ readOrder ⟨8, 15, 101, 3, 0, 0, 0⟩ = none ∧ readOrder ⟨8, 15, 101, 5, 1, 0, 0⟩ = none) :=
  ⟨⟨takes_lined _ _, takes_lined _ _, takes_lined _ _⟩, by decide +kernel⟩

/-- Some order fails `check`, first the one at `k`, and none fails an earlier check. -/
def FirstFailure (s : State) (batch : List Order) (check k : Nat) : Prop :=
  failsCheck s batch check k ∧ (∀ j < k, ¬ failsCheck s batch check j)
    ∧ ∀ earlier < check, ∀ j, ¬ failsCheck s batch earlier j

/-- The checks that an order alone in its batch fails. -/
theorem failsCheck_singleton (s : State) (o : Order) (check k : Nat) :
    failsCheck s [o] check k ↔ k = 0
      ∧ (check = 2 ∧ 0xF000 ≤ o.tag.toNat ∨ check = 3 ∧ (∃ e ∈ s.agenda.entries, e.tag = o.tag)
        ∨ check = 4 ∧ (s.line o.line).isDrive = false ∨ check = 5 ∧ classify o.due s.timebase.time = .beyond
        ∨ check = 6 ∧ classify o.due s.timebase.time = .late ∧ o.fireNow = false
        ∨ check = 7 ∧ 64 - s.agenda.entries.length
          < ([o].filter fun o => o.action.isPulse || classify o.due s.timebase.time == .future).length) := by
  unfold failsCheck
  split <;> cases k <;> simp_all

theorem firstFailure_singleton (s : State) (o : Order) (check : Nat) (fails : failsCheck s [o] check 0)
    (passes : ∀ earlier < check, ¬ failsCheck s [o] earlier 0) : FirstFailure s [o] check 0 := by
  refine ⟨fails, by simp, fun earlier before j h => ?_⟩
  obtain rfl : j = 0 := ((failsCheck_singleton ..).1 h).1
  exact passes earlier before h

/-- Each of checks 2 to 7 is the first that some batch fails. -/
theorem witness_ScheduleChecks_first :
    FirstFailure lined [⟨0xF000, 3, 101, .single .set, true, true⟩] 2 0
      ∧ FirstFailure fullAgenda [⟨63, 3, 101, .single .set, true, true⟩] 3 0
      ∧ FirstFailure lined [⟨0xEFFF, 0, 101, .single .set, true, true⟩] 4 0
      ∧ FirstFailure lined [⟨1, 3, 1099511627876, .single .set, true, true⟩] 5 0
      ∧ FirstFailure lined [⟨1, 3, 100, .single .set, false, true⟩] 6 0
      ∧ FirstFailure fullAgenda [⟨99, 3, 101, .single .set, true, true⟩] 7 0 := by
  refine ⟨?_, ?_, ?_, ?_, ?_, ?_⟩ <;> apply firstFailure_singleton <;> simp only [failsCheck_singleton] <;> decide +kernel

/-- A tag used twice in one batch fails check 3 at its second order. -/
theorem witness_ScheduleChecks_second :
    FirstFailure lined [⟨1, 3, 101, .single .set, true, true⟩, ⟨1, 3, 101, .single .set, true, true⟩] 3 1 := by
  refine ⟨.intro _ ⟨rfl, .inr ⟨_, List.mem_cons_self, rfl⟩⟩, ?_, ?_⟩
  · rintro j hj ⟨o, ho, h⟩
    obtain rfl : j = 0 := by omega
    obtain rfl := Option.some.inj ho
    revert h
    decide +kernel
  · intro earlier before j
    match earlier, before with
    | 0, _ => exact id
    | 1, _ => exact id
    | 2, _ =>
      rintro ⟨o, ho, h⟩
      have same := List.mem_of_getElem? ho
      simp at same
      subst same
      revert h
      decide

/-- What checks 2 to 7 make of some batches. -/
theorem witness_ScheduleChecks :
    (batchFault fullAgenda [⟨99, 3, 101, .single .set, true, true⟩] = some (.agendaFull, 0)
        ∧ batchFault fullAgenda [⟨99, 3, 100, .single .set, true, true⟩] = none
        ∧ batchFault fullAgenda [⟨63, 3, 101, .single .set, true, true⟩] = some (.tagInUse, 0))
      ∧ batchFault lined [⟨1, 3, 101, .single .set, true, true⟩, ⟨0xF000, 3, 101, .single .set, true, true⟩]
          = some (.tagReserved, 1)
      ∧ batchFault lined [⟨0xEFFF, 0, 101, .single .set, true, true⟩] = some (.lineMode, 0)
      ∧ batchFault lined [⟨1, 3, 1099511627876, .single .set, true, true⟩] = some (.badField, 0)
      ∧ batchFault lined [⟨1, 3, 1099511627875, .single .set, false, true⟩] = none
      ∧ batchFault lined [⟨1, 3, 100, .single .set, false, true⟩] = some (.late, 0)
      ∧ [(⟨1, 3, 100, 0, 0, 1, 1⟩ : RawOrder)].map readOrder = [(⟨1, 3, 100, .single .set, false, true⟩ : Order)].map some := by
  decide +kernel

theorem witness_CancelRequestsRemoveEntries :
    Takes lined 1 (.cancel 7 1) ∧ lined.timebase.holdGuard = false ∧ Takes lined 1 (.cancelLine 15) ∧ readLine 15 = some 15
      ∧ Takes lined 1 (.cancelLine 16) ∧ 16 ≤ (16 : Byte).toNat :=
  ⟨takes_lined _ _, rfl, takes_lined _ _, by decide, takes_lined _ _, by decide⟩

theorem witness_SetFollowWritesTheRule :
    Takes lined 1 (.setFollow 7 ⟨0, 2, 3, 0, 0, 9, 1, 0, 0, 1⟩) ∧ lined.timebase.holdGuard = false
      ∧ (readFollow ⟨15, 2, 3, 4, 1, 9, 65535, 1, 1, 1⟩).isSome = true ∧ readFollow ⟨15, 2, 3, 4, 0, 9, 1, 1, 1, 1⟩ = none :=
  ⟨takes_lined _ _, rfl, by decide +kernel⟩

theorem witness_ArmDisarmAndClearFollow :
    readRuleId 7 = some 7 ∧ lined.timebase.holdGuard = false ∧ Takes lined 1 (.armFollow 7) ∧ Takes lined 1 (.disarmFollow 7)
      ∧ Takes lined 1 (.clearFollow 7)
      ∧ (8 ≤ (8 : Byte).toNat ∧ Takes lined 1 (.armFollow 8) ∧ Takes lined 1 (.disarmFollow 8) ∧ Takes lined 1 (.clearFollow 8)) :=
  ⟨by decide, rfl, takes_lined _ _, takes_lined _ _, takes_lined _ _, by decide, takes_lined _ _, takes_lined _ _,
    takes_lined _ _⟩

/-- A rule's own entry. -/
def ownEntry (action : Action) (phase : Phase) : AgendaEntry :=
  { tag := 0xF002, line := 3, due := 150, action := action, phase := phase, origin := .follow 2, report := true }

/-- `following` with agenda entries. -/
def followingWith (r : FollowRule) (entries : List AgendaEntry) : State :=
  { following r with agenda := { entries := entries, history := [] } }

/-- A state in which rule 2 is `r` and a match of it has this outcome. -/
def outcome (s : State) (r : FollowRule) (c : Capture) (reason : Option MissReason) : Bool :=
  decide (AgendaOk s) && s.rule 2 == some r && r.status == .armed && missReason s 2 r c == reason

theorem witness_MatchMissesOrFires :
    (let r := ruleWith .armed (.single .set) 9 .miss .ignore;
      outcome ((following r).setLine 3 .reset) r ⟨0, .rise, 100⟩ (some .targetMode)
        ∧ outcome (following r) r ⟨0, .rise, 91⟩ (some .late) ∧ outcome (following r) r ⟨0, .rise, 92⟩ none
        ∧ outcome (followingWith r [ownEntry (.single .set) .lead]) r ⟨0, .rise, 92⟩ (some .busy))
      ∧ (let r := ruleWith .armed (.single .set) 9 .fireNow .restart;
        let entries := (List.range 64).map fun k => entry (BitVec.ofNat 16 k) 200 (.single .set) .lead
        outcome (followingWith r entries) r ⟨0, .rise, 92⟩ (some .agendaFull)
          ∧ outcome (followingWith r entries) r ⟨0, .rise, 91⟩ none) := by decide +kernel

theorem witness_FirePlacesItsEdge :
    (let r := ruleWith .armed (.pulse .high 5) 9 .fireNow .restart;
      outcome (following r) r ⟨0, .rise, 92⟩ none ∧ outcome (following r) r ⟨0, .rise, 91⟩ none
        ∧ outcome (followingWith r [ownEntry (.pulse .high 5) .trail]) r ⟨0, .rise, 91⟩ none
        ∧ outcome (followingWith r [ownEntry (.pulse .high 5) .lead]) r ⟨0, .rise, 92⟩ none)
      ∧ (let r := ruleWith .armed (.single .toggle) 9 .fireNow .restart;
        outcome (following r) r ⟨0, .rise, 91⟩ none) := by decide +kernel

/-- Rule 2's entry is held and an AWAIT for the empty agenda is deferred: a late single action restarts the rule, which
empties the agenda, and the AWAIT is answered; a future one holds a new entry, and it is not. -/
theorem test_retrigger_tests_the_deferred_await :
    let r := ruleWith .armed (.single .set) 9 .fireNow .restart
    let s := { followingWith r [ownEntry (.single .set) .lead] with link := { running.link with
      deferred := some { deferredAwait (some 0) with condition := .agendaEmpty none } } }
    outcome s r ⟨0, .rise, 91⟩ none ∧ outcome s r ⟨0, .rise, 92⟩ none
      ∧ (s.matchRule 2 r ⟨0, .rise, 91⟩).1.link.deferredSlot.map (·.reply) = some (okay (.await 100 0))
      ∧ (s.matchRule 2 r ⟨0, .rise, 92⟩).1.link = s.link := by decide +kernel

theorem witness_RaisingANotice :
    ({ running.notices with mask := 0xFE }.mask.getLsbD 0 = false)
      ∧ (full31.drop 1).length < 31 ∧ running.notices.mask.getLsbD 0 = true
      ∧ (31 ≤ (full31 ++ [record 31 true false false]).length ∧ (record 31 true false false).sent = false)
      ∧ ((∀ n ∈ full31.getLast?, n.sent = true ∨ isLost n = false) ∧ full31.length = 31)
      ∧ ((∀ n ∈ full32.getLast?, n.sent = true ∨ isLost n = false) ∧ full32.length = 32) := by decide +kernel

theorem witness_AckNoticesRemovesSentRecords : Takes (noted full32) 1 (.ackNotices 31) := takes_of_reset_link rfl rfl _ _

theorem witness_SettingRequestsSetOnlyTheirFields : Takes lined 1 (.setQueue 256) ∧ Takes lined 1 (.setNotices 0 0) :=
  ⟨takes_lined _ _, takes_lined _ _⟩

theorem witness_NoticeFramesComplete :
    let c := (record 4 false false false).content
    let s := { noted [record 3 false true false, record 4 false false false, record 5 false false false] with
      link := { running.link with tx := .sending (.firstSending c) } }
    (s.power.inReset = false ∧ s.link.tx = .sending (.firstSending c)
        ∧ s.notices.records = [record 3 false true false] ++ record 4 false false false :: [record 5 false false false]
        ∧ ∀ m ∈ [record 3 false true false] ++ [record 5 false false false], m.content ≠ c)
      ∧ (linked fun l => { l with tx := .sending (.repeatSending c) }).link.tx = .sending (.repeatSending c) := by
  decide +kernel

theorem witness_ServiceTimerExpiries :
    (linked fun l => { l with deferred := some (deferredAwait (some 0)) }).link.deferred = some (deferredAwait (some 0))
      ∧ (deferredAwait (some 0)).timer = some 0
      ∧ { running.notices with timer := some 7 }.timer = some 7 ∧ running.power.inReset = false := by decide +kernel

theorem witness_OtherArrivals :
    knownKind 0x3F = false ∧ ([] : List Byte).length ≤ 240 ∧ running.power.inReset = false ∧ running.link.waiting = none
      ∧ running.link.replySlot = none ∧ running.link.repeatOf 1 (requestFrame 1 0x3F []).check = none
      ∧ (linked fun l => { l with lastTaken := some ⟨1, 2, .deferred⟩ }).link.lastTaken = some ⟨1, 2, .deferred⟩
      ∧ (linked fun l => { l with waiting := some ⟨1, 2, [], 3⟩ }).link.waiting.isSome = true := by decide +kernel

/-- No length suits the kind that `witness_OtherArrivals` names. -/
theorem witness_OtherArrivals_kind : ¬ ∃ n, lengthAllowed 0x3F n := by
  rintro ⟨n, h⟩
  simp [lengthAllowed] at h

theorem witness_DiscardsAreCounted :
    (Receiver.len ≠ .hunt ∧ Receiver.len.detects .badStop = true ∧ Receiver.len.detects .lengthAbove240 = true)
      ∧ (Receiver.check 1 0x41 [] (some ((frameCheck 1 0x41 []).setWidth 8))).detects .crcDiffers = true
      ∧ ((0x41 : Byte).extractLsb' 6 2 ≠ 0
        ∧ (Receiver.check 1 0x41 [] (some ((frameCheck 1 0x41 []).setWidth 8))).detects .notARequest = true) := by
  decide +kernel

theorem witness_CharactersAdvanceTheReceiver : running.power.inReset = false := rfl

theorem witness_RepliesComplete_taken :
    Request.restart.wellFormed = true ∧ Takes running 1 .restart
      ∧ parseRequest 0x3F [] = .unknownKind ∧ parseRequest 0x04 [0] = .badLength :=
  ⟨by decide +kernel, takes_running _ _, by decide +kernel⟩

theorem witness_RepliesComplete :
    (let s := linked fun l => { l with tx := .sending (.reply (frame plain)), replySlot := some (frame plain) };
      s.power.inReset = false ∧ s.link.tx = .sending (.reply (frame plain)) ∧ s.link.restartPending = false)
      ∧ (let s := linked fun l => { l with
          tx := .sending (.deferredReply (frame plain)), deferred := some (deferredAwait none) };
        s.link.tx = .sending (.deferredReply (frame plain)) ∧ s.link.deferred = some (deferredAwait none)) := by
  decide +kernel

theorem witness_TransmitterChoosesInOrder :
    (linked fun l => { l with tx := .sending (.reply (frame plain)) }).link.tx ≠ .idle
      ∧ running.link.tx = .idle
      ∧ (linked fun l => { l with replySlot := some (frame plain) }).link.replySlot = some (frame plain)
      ∧ (linked fun l => { l with deferredSlot := some (frame plain) }).link.deferredSlot = some (frame plain)
      ∧ ((noted [record 3 false true false, record 4 false false false]).notices.records
          = [record 3 false true false] ++ record 4 false false false :: []
        ∧ (record 3 false true false).sent = true ∧ (record 4 false false false).sent = false)
      ∧ ((noted [record 3 false true false, record 4 false true true]).notices.records
          = [record 3 false true false] ++ record 4 false true true :: []
        ∧ (record 4 false true true).mark = true ∧ (record 3 false true false).mark = false)
      ∧ (∀ m ∈ running.notices.records, m.mark = false) := by decide +kernel

theorem witness_EventsThatCannotOccur :
    State.reset.timebase.state ≠ .running ∧ (run .resetAsserted running).power.inReset = true
      ∧ (Instr.tick 0).wellFormed = true := by decide +kernel

theorem witness_ClockCountsPeriods :
    (let s := linked fun l => { l with tx := .sending (.reply (frame plain)) };
      s.power.inReset = false ∧ s.pending = [] ∧ s.link.tx ≠ .idle ∧ s.timebase.state = .running ∧ s.timebase.count = 0
        ∧ s.notices.timer = none ∧ s.link.awaiting = none)
      ∧ (let s := { linked fun l => { l with
            tx := .sending (.reply (frame plain)), deferred := some (deferredAwait (some 0)) } with timebase := .reset };
        s.timebase.state = .stopped ∧ s.notices.timer = none ∧ s.link.deferred = some (deferredAwait (some 0)))
      ∧ (let s := { linked fun l => { l with tx := .sending (.reply (frame plain)) } with
            timebase := .reset, notices := { NoticeQueue.empty with timer := some 0 } };
        s.timebase.state = .stopped ∧ s.link.awaiting = none ∧ s.notices.timer = some 0) := by decide +kernel

/-- The state of these witnesses is not the one after reset: lines, a queue, an agenda and a rule hold something. -/
def busy : State :=
  { followingWith (ruleWith .armed (.pulse .high 5) 9 .fireNow .restart) [entry 7 101 (.single .set) .lead] with
    queue := queueOf 3, notices := { running.notices with records := [record 4 false true false] } }

theorem witness_StepKeepsTheInvariant : Inv busy ∧ ∃ t, step busy = .next t :=
  ⟨⟨by decide +kernel, by decide +kernel, by decide +kernel, by decide +kernel, by decide +kernel, by decide +kernel,
    by decide +kernel, by decide +kernel, by decide +kernel, by show busy.power = .reset; rfl⟩, _, rfl⟩

theorem witness_StepKeepsTheTimebase : TimebaseOk busy.timebase ∧ ∃ t, step busy = .next t := ⟨by decide +kernel, _, rfl⟩

theorem witness_StepKeepsTheLines : LinesOk busy ∧ ∃ t, step busy = .next t := ⟨by decide +kernel, _, rfl⟩

theorem witness_StepKeepsTheCaptureQueue : QueueOk busy.queue ∧ ∃ t, step busy = .next t := ⟨by decide +kernel, _, rfl⟩

theorem witness_StepKeepsTheAgenda : AgendaOk busy ∧ RulesOk busy ∧ ∃ t, step busy = .next t :=
  ⟨by decide +kernel, by decide +kernel, _, rfl⟩

theorem witness_StepKeepsTheNotices : NoticesOk busy.notices busy.link.tx ∧ ∃ t, step busy = .next t :=
  ⟨by decide +kernel, _, rfl⟩

end Sys2Proof.Tests
end

section
/-! What a request can do, said once: the effects it has on the state (`Effect`), and the answers of the owning blocks
(`Answers`, `runRequest_answers`), with the checks that stand before them. -/

namespace Sys2Proof.Machine

open Sys2Proof.Safety

/-! ## The effects of requests -/

/-- What a request does to the state besides its reply, with the checks that stand before it. RESTART and the deferring
of AWAIT stand in `Answers`, since they go with what the link writes. -/
inductive Effect (s : State) : State → Prop where
  | unchanged : Effect s s
  | present (pins : Half) : Effect s (s.present pins)
  | clearCounters : Effect s s.clearCounters
  | start (stopped : s.timebase.state = .stopped) : Effect s s.enterStarted
  | startZero (stopped : s.timebase.state = .stopped) (empty : s.agenda.entries = []) : Effect s s.zeroTime.enterStarted
  | stop : Effect s s.stopTime
  | setTimebase (p n : Nat) (g : Bool) (exponent : p ≤ 8) (length : LengthOk n)
      (same : s.timebase.state ≠ .stopped → p = s.timebase.prescale) : Effect s (s.setTimebase p n g)
  | reasons (r : HoldReasons) : Effect s (s.changeReasons r)
  | reconfigure (i : LineId) (m : LineMode) (filter : filterOk m = true) : Effect s (s.reconfigure i m)
  | writeSlot (i : LineId) (sl : SlotSel) (p : Pattern) (drive : (s.line i).isDrive = true) (named : sl ≠ .noSlot)
      (inactive : (s.line i).active ≠ sl) (pattern : PatternOk p) : Effect s (s.setLine i ((s.line i).write sl p))
  | clearPattern (i : LineId) (drive : (s.line i).isDrive = true) :
      Effect s (s.setLine i { s.line i with takeover := some .noSlot })
  | read (first max : Nat) (within : first < s.queue.entries.length ∨ first = s.queue.position s.queue.readPointer) :
      Effect s { s with queue := s.queue.read first max }
  | release (p : Nat) (held : p < s.queue.entries.length) (read : p < s.queue.position s.queue.readPointer) :
      Effect s (s.releaseThrough p)
  | watermark (w : Nat) (range : w ≤ 256) : Effect s { s with queue := s.queue.setWatermark w }
  | schedule (batch : List Order) (actions : ∀ o ∈ batch, actionOk o.action = true) (passed : batchFault s batch = none) :
      Effect s (batch.foldl State.carryOut s)
  | cancel (e : AgendaEntry) (complete : Bool) (held : e ∈ s.agenda.entries) : Effect s (s.cancelEntry e complete)
  | cancelLine (i : LineId) : Effect s (s.removeLineEntries i)
  | rule (k : RuleId) (r : FollowRule) (ok : (∀ old ∈ s.rule k, RuleOk old) → RuleOk r) : Effect s (s.setRule k (some r))
  | clearRule (k : RuleId) : Effect s (s.clearRule k)
  | acknowledge (p : Nat) (n : Notice) (held : s.notices.records[p]? = some n) (sent : n.sent = true) :
      Effect s { s with notices := s.notices.acknowledge s.timebase.time p }
  | configure (mask interval : Byte) : Effect s { s with notices := s.notices.configure mask interval }

/-- What the owner of a request taken with this SEQ and check value answers. -/
inductive Answers (seq : Byte) (check : Half) (s : State) : Answer → Prop where
  | reply {t : State} (h : Effect s t) (r : Reply) : Answers seq check s (t, some r)
  | restart (r : Reply) : Answers seq check s ({ s with link := { s.link with restartPending := true } }, some r)
  | defer (c : AwaitCondition) (timeout : Nat) (range : 1 ≤ timeout ∧ timeout ≤ 60000) (free : s.link.deferred = none)
      (waits : c.holds s = false) : Answers seq check s (s.defer seq check c timeout, none)

/-! ## What the readers of payload fields give -/

theorem readFlag_cases {b : Byte} {f : Bool} (h : readFlag b = some f) : b = 0 ∧ f = false ∨ b = 1 ∧ f = true := by
  unfold readFlag at h
  split at h
  · next => exact Or.inl ⟨rfl, (Option.some.inj h).symm⟩
  · next => exact Or.inr ⟨rfl, (Option.some.inj h).symm⟩
  · next => simp at h

/-- A pulse is read with a width of at least 1 (R82, R124). -/
theorem readAction_ok {code : Byte} {width : Span} {a : Action} (h : readAction code width = some a) :
    actionOk a = true := by
  unfold readAction at h
  split at h
  · cases h; rfl
  · cases h; rfl
  · cases h; rfl
  · split at h
    · cases h
    · next hw => cases h; simpa [actionOk] using hw
  · split at h
    · cases h
    · next hw => cases h; simpa [actionOk] using hw
  · cases h

theorem readOrder_actionOk {o : RawOrder} {order : Order} (h : readOrder o = some order) :
    actionOk order.action = true := by
  unfold readOrder at h
  split at h
  · next ha _ _ => cases h; exact readAction_ok ha
  · cases h

theorem readBatch_actionOk {k : Nat} {orders : List RawOrder} {batch : List Order} (h : readBatch k orders = .ok batch) :
    ∀ o ∈ batch, actionOk o.action = true := by
  induction orders generalizing k batch with
  | nil => cases h; simp
  | cons o rest ih =>
    unfold readBatch at h
    split at h
    · cases h
    · next order ho =>
      split at h
      · next tail ht =>
        cases h
        simpa using ⟨readOrder_actionOk ho, ih ht⟩
      · cases h

/-- A rule read from a payload and just written satisfies the rules' invariant (R124, R125). -/
theorem readFollow_ruleOk {raw : RawFollow} {f : FollowSettings} (h : readFollow raw = some f) : RuleOk (freshRule f) := by
  unfold readFollow at h
  split at h
  · next ha _ _ _ =>
    split at h
    · cases h
    · next hne =>
      cases h
      rw [not_or] at hne
      have hshots := raw.shots.isLt
      refine ⟨readAction_ok ha, fun e => hne.1 e.symm, hne.2, by simp [freshRule]; omega, Nat.le_refl _, ?_, ?_, ?_, ?_⟩ <;>
        simp [freshRule]
  · cases h

theorem FollowRule.arm_ok {r : FollowRule} (h : RuleOk r) : RuleOk r.arm := by
  obtain ⟨ha, hst, hd, hs, hr, harm, hsp, hf, hm⟩ := h
  unfold FollowRule.arm
  split
  · exact ⟨ha, hst, hd, hs, hr, harm, hsp, hf, hm⟩
  · exact ⟨ha, hst, hd, hs, Nat.le_refl _, fun _ h => h, by simp, hf, hm⟩
  · exact ⟨ha, hst, hd, hs, Nat.le_refl _, fun _ h => h, by simp, hf, hm⟩

theorem FollowRule.disarm_ok {r : FollowRule} (h : RuleOk r) : RuleOk r.disarm := by
  obtain ⟨ha, hst, hd, hs, hr, harm, hsp, hf, hm⟩ := h
  unfold FollowRule.disarm
  split
  · exact ⟨ha, hst, hd, hs, hr, by simp, by simp, hf, hm⟩
  · exact ⟨ha, hst, hd, hs, hr, harm, hsp, hf, hm⟩
  · exact ⟨ha, hst, hd, hs, hr, harm, hsp, hf, hm⟩

theorem readPatternEdge_offset {e : RawEdge} {p : PatternEdge} (h : readPatternEdge e = some p) : p.offset ≤ 65535 := by
  obtain ⟨a, -, rfl⟩ := Option.map_eq_some_iff.1 h
  have := e.offset.isLt
  simp; omega

theorem readPatternEdges_offset {es : List RawEdge} {ps : List PatternEdge} (h : readPatternEdges es = some ps) :
    ∀ p ∈ ps, p.offset ≤ 65535 := by
  induction es generalizing ps with
  | nil => cases h; simp
  | cons e rest ih =>
    unfold readPatternEdges at h
    split at h
    · next he hr =>
      cases h
      simpa using ⟨readPatternEdge_offset he, ih hr⟩
    · cases h

/-- A pattern taken by WRITE_SLOT satisfies R105. -/
theorem readPattern_ok {boundary : Byte} {edges : List RawEdge} {p : Pattern} (h : readPattern boundary edges = some p) :
    PatternOk p := by
  unfold readPattern at h
  split at h
  · next he =>
    split at h
    · next hok => cases h; exact ⟨hok.1, hok.2, readPatternEdges_offset he⟩
    · cases h
  · cases h

theorem readSlot_ne {b : Byte} {sl : SlotSel} (h : readSlot b = some sl) : sl ≠ .noSlot := by
  unfold readSlot at h
  split at h
  · cases h; simp
  · cases h; simp
  · cases h

theorem readMode_filterOk {mode polarity : Byte} {filter : Half} {idle holdAction : Byte} {m : LineMode}
    (h : readMode mode polarity filter idle holdAction = some m) : filterOk m = true := by
  unfold readMode at h
  split at h
  · cases h; rfl
  · split at h
    · split at h
      · next hf => cases h; simpa [filterOk] using hf
      · cases h
    · cases h
  · split at h
    · cases h; rfl
    · cases h
  · cases h

/-! ## What each owner answers -/

variable {seq : Byte} {check : Half} {s : State}

theorem Answers.refuse (code : ResultCode) : Answers seq check s (refuse code s) := .reply .unchanged _

theorem Answers.refuseWith (code : ResultCode) (data : ReplyData) : Answers seq check s (refuseWith code data s) :=
  .reply .unchanged _

theorem Answers.accept {t : State} (h : Effect s t) (data : ReplyData) : Answers seq check s (accept data t) := .reply h _

theorem statusRequest_answers (clear : Byte) : Answers seq check s (statusRequest clear s) := by
  unfold statusRequest
  split
  · exact .refuse _
  · refine .accept ?_ _
    split
    · exact .clearCounters
    · exact .unchanged

theorem awaitRequest_answers (condition : Byte) (argument : Stamp) (timeout : Half) :
    Answers seq check s (awaitRequest seq check condition argument timeout s) := by
  unfold awaitRequest
  split
  · exact .refuse _
  · split
    · exact .refuse _
    · next hrange =>
      split
      · exact .refuse _
      · next hfree =>
        split
        · exact .reply .unchanged _
        · next hwait => exact .defer _ _ (by omega) (by simpa using hfree) (by simpa using hwait)

theorem startRequest_answers (origin : Byte) : Answers seq check s (startRequest origin s) := by
  unfold startRequest
  split
  · exact .refuse _
  · next zero _ =>
    split
    · exact .refuse _
    · next hstop =>
      rw [not_not] at hstop
      split
      · exact .refuse _
      · next hempty =>
        refine .accept ?_ _
        cases zero with
        | true => exact .startZero hstop (by simpa using hempty)
        | false => exact .start hstop

theorem setTimebaseRequest_answers (exponent : Byte) (length : Quad) (guard : Byte) :
    Answers seq check s (setTimebaseRequest exponent length guard s) := by
  unfold setTimebaseRequest
  split
  · exact .refuse _
  · split
    · exact .refuse _
    · next hrange =>
      split
      · exact .refuse _
      · next hexp =>
        refine .accept (.setTimebase _ _ _ (by omega) ⟨by omega, by omega⟩ fun hs => ?_) _
        by_contra hp
        exact hexp ⟨hs, hp⟩

theorem setLineRequest_answers (line mode polarity : Byte) (filter : Half) (idle holdAction : Byte) :
    Answers seq check s (setLineRequest line mode polarity filter idle holdAction s) := by
  unfold setLineRequest
  split
  · next hm =>
    split
    · exact .refuse _
    · exact .accept (.reconfigure _ _ (readMode_filterOk hm)) _
  · exact .refuse _

theorem writeSlotRequest_answers (line slot boundary : Byte) (edges : List RawEdge) :
    Answers seq check s (writeSlotRequest line slot boundary edges s) := by
  unfold writeSlotRequest
  split
  · next hs hp =>
    dsimp only
    split
    · exact .refuse _
    · split
      · exact .refuse _
      · next hdrive =>
        split
        · exact .refuse _
        · next hactive =>
          split
          · exact .refuseWith _ _
          · exact .accept (.writeSlot _ _ _ (by simpa using hdrive) (readSlot_ne hs) hactive (readPattern_ok hp)) _
  · exact .refuse _

theorem clearPatternRequest_answers (line : Byte) : Answers seq check s (clearPatternRequest line s) := by
  unfold clearPatternRequest
  split
  · dsimp only
    split
    · exact .refuse _
    · split
      · exact .refuse _
      · next hdrive => exact .accept (.clearPattern _ (by simpa using hdrive)) _
  · exact .refuse _

/-- READ_CAPTURES starts at an entry held or at the read pointer (R61). -/
theorem CaptureQueue.readStart_within {q : CaptureQueue} {byQseq : Bool} {x : Half} {first : Nat}
    (h : q.readStart byQseq x = some first) : first < q.entries.length ∨ first = q.position q.readPointer := by
  unfold CaptureQueue.readStart at h
  split at h
  · split at h
    · next hx => cases h; exact Or.inl hx
    · cases h
  · cases h; exact Or.inr rfl

theorem readCapturesRequest_answers (source : Byte) (x : Half) (max : Byte) :
    Answers seq check s (readCapturesRequest source x max s) := by
  unfold readCapturesRequest
  split
  · exact .refuse _
  · split
    · exact .refuse _
    · split
      · exact .refuse _
      · next hstart => exact .accept (.read _ _ (CaptureQueue.readStart_within hstart)) _

theorem releaseCapturesRequest_answers (upto : Half) : Answers seq check s (releaseCapturesRequest upto s) := by
  unfold releaseCapturesRequest
  dsimp only
  split
  · exact .refuse _
  · split
    · exact .refuse _
    · next hheld =>
      split
      · exact .refuse _
      · next hread => exact .accept (.release _ (by omega) (by omega)) _

theorem setQueueRequest_answers (watermark : Half) : Answers seq check s (setQueueRequest watermark s) := by
  unfold setQueueRequest
  split
  · exact .refuse _
  · exact .accept (.watermark _ (by omega)) _

theorem scheduleRequest_answers (orders : List RawOrder) : Answers seq check s (scheduleRequest orders s) := by
  unfold scheduleRequest
  split
  · exact .refuseWith _ _
  · split
    · exact .refuseWith _ _
    · next hbatch =>
      split
      · exact .refuseWith _ _
      · split
        · exact .refuseWith _ _
        · next hfault => exact .accept (.schedule _ (readBatch_actionOk hbatch) hfault) _

theorem cancelRequest_answers (tag : Half) (complete : Byte) : Answers seq check s (cancelRequest tag complete s) := by
  unfold cancelRequest
  split
  · exact .refuse _
  · split
    · exact .refuse _
    · split
      · exact .refuse _
      · split
        · next hfind => exact .reply (.cancel _ _ (Agenda.find_some hfind).1) _
        · split
          · exact .refuse _
          · exact .refuse _

theorem cancelLineRequest_answers (line : Byte) : Answers seq check s (cancelLineRequest line s) := by
  unfold cancelLineRequest
  split
  · split
    · exact .refuse _
    · exact .accept (.cancelLine _) _
  · exact .refuse _

theorem listAgendaRequest_answers (first count : Byte) : Answers seq check s (listAgendaRequest first count s) := by
  unfold listAgendaRequest
  split
  · exact .refuse _
  · exact .accept .unchanged _

theorem setFollowRequest_answers (id : Byte) (settings : RawFollow) :
    Answers seq check s (setFollowRequest id settings s) := by
  unfold setFollowRequest
  split
  · next hf =>
    split
    · exact .refuse _
    · split
      · exact .refuse _
      · exact .accept (.rule _ _ fun _ => readFollow_ruleOk hf) _
  · exact .refuse _

theorem armFollowRequest_answers (id : Byte) : Answers seq check s (armFollowRequest id s) := by
  unfold armFollowRequest
  split
  · exact .refuse _
  · split
    · exact .refuse _
    · split
      · exact .refuse _
      · next hr => exact .accept (.rule _ _ fun h => FollowRule.arm_ok (h _ hr)) _

theorem disarmFollowRequest_answers (id : Byte) : Answers seq check s (disarmFollowRequest id s) := by
  unfold disarmFollowRequest
  split
  · exact .refuse _
  · split
    · exact .refuse _
    · split
      · exact .refuse _
      · next hr => exact .accept (.rule _ _ fun h => FollowRule.disarm_ok (h _ hr)) _

theorem clearFollowRequest_answers (id : Byte) : Answers seq check s (clearFollowRequest id s) := by
  unfold clearFollowRequest
  split
  · exact .refuse _
  · split
    · exact .refuse _
    · exact .accept (.clearRule _) _

theorem readFollowRequest_answers (id : Byte) : Answers seq check s (readFollowRequest id s) := by
  unfold readFollowRequest
  split
  · exact .refuse _
  · exact .accept .unchanged _

theorem ackNoticesRequest_answers (upto : Half) : Answers seq check s (ackNoticesRequest upto s) := by
  unfold ackNoticesRequest
  split
  · exact .refuseWith _ _
  · next hn =>
    split
    · next hsent => exact .accept (.acknowledge _ _ hn hsent) _
    · exact .refuseWith _ _

/-- Every owner answers in one of the three ways. -/
theorem runRequest_answers (seq : Byte) (check : Half) (r : Request) (s : State) :
    Answers seq check s (runRequest seq check r s) := by
  cases r with
  | identify => exact .accept .unchanged _
  | status clear => exact statusRequest_answers clear
  | await condition argument timeout => exact awaitRequest_answers condition argument timeout
  | restart => exact .restart _
  | start origin => exact startRequest_answers origin
  | stop => exact .accept .stop _
  | setTimebase exponent length guard => exact setTimebaseRequest_answers exponent length guard
  | hold => exact .accept (.reasons _) _
  | resume => exact .accept (.reasons _) _
  | setLine line mode polarity filter idle holdAction =>
    exact setLineRequest_answers line mode polarity filter idle holdAction
  | readLines => exact .accept .unchanged _
  | writeSlot line slot boundary edges => exact writeSlotRequest_answers line slot boundary edges
  | clearPattern line => exact clearPatternRequest_answers line
  | readCaptures source qseq max => exact readCapturesRequest_answers source qseq max
  | releaseCaptures upto => exact releaseCapturesRequest_answers upto
  | setQueue watermark => exact setQueueRequest_answers watermark
  | schedule orders => exact scheduleRequest_answers orders
  | cancel tag complete => exact cancelRequest_answers tag complete
  | cancelLine line => exact cancelLineRequest_answers line
  | listAgenda first count => exact listAgendaRequest_answers first count
  | setFollow id settings => exact setFollowRequest_answers id settings
  | armFollow id => exact armFollowRequest_answers id
  | disarmFollow id => exact disarmFollowRequest_answers id
  | clearFollow id => exact clearFollowRequest_answers id
  | readFollow id => exact readFollowRequest_answers id
  | ackNotices upto => exact ackNoticesRequest_answers upto
  | setNotices mask interval => exact .accept (.configure mask interval) _

theorem answerFrame_answers (f : RequestFrame) (s : State) : Answers f.seq f.check s (answerFrame f s) := by
  unfold answerFrame
  split
  · exact .refuse _
  · exact .refuse _
  · exact runRequest_answers _ _ _ _

end Sys2Proof.Machine
end

section
/-! The single writes of which expiries, pattern steps, matches and cancellations are made (`Update`). What each of these
writes keeps, all of those keep. -/

namespace Sys2Proof.Machine

open Sys2Proof.Safety Relation

/-- A notice that its block raises: any but NOTICE_LOST, which the Notice Queue alone makes (R144, R146). -/
def NoticeBody.isOrdinary : NoticeBody → Bool
  | .noticeLost _ => false
  | _ => true

/-- A write of one block that leaves the timebase, the qualifiers and the modes of the lines alone: a notice raised, an
action on a line, a takeover, a test of the deferred AWAIT, and any write of the agenda, a rule or the queue. -/
inductive Update (s : State) : State → Prop where
  | raise (b : NoticeBody) (ordinary : b.isOrdinary = true) : Update s (s.raise b)
  | act (i : LineId) (a : LevelAction) : Update s (s.actOn i a)
  | take (i : LineId) (slot : SlotSel) (pending : (s.line i).takeover = some slot) :
      Update s (s.setLine i { s.line i with active := slot, takeover := none })
  | await (ev : AwaitEvent) : Update s (s.awaitTest ev)
  | agenda (a : Agenda) : Update s { s with agenda := a }
  | rule (k : RuleId) (r : Option FollowRule) : Update s (s.setRule k r)
  | queue (q : CaptureQueue) : Update s { s with queue := q }

abbrev Updates : State → State → Prop := ReflTransGen Update

theorem Update.one {s t : State} (h : Update s t) : Updates s t := .single h

/-- A predicate that every write keeps is kept by writes. -/
theorem Updates.keep {P : State → Prop} (update : ∀ {s t}, P s → Update s t → P t) {s t : State} (h : Updates s t)
    (hs : P s) : P t := by
  induction h with
  | refl => exact hs
  | tail _ u ih => exact update ih u

/-- A fold of writes is writes. -/
theorem Updates.foldl {α : Type} {f : State → α → State} (h : ∀ s a, Updates s (f s a)) (l : List α) (s : State) :
    Updates s (l.foldl f s) := by
  induction l generalizing s with
  | nil => exact .refl
  | cons a l ih => exact (h s a).trans (ih _)

/-! ## What is made of writes -/

theorem State.raiseIf_updates (s : State) (c : Bool) {b : NoticeBody} (ordinary : b.isOrdinary = true) :
    Updates s (s.raiseIf c b) := by
  unfold State.raiseIf
  split
  · exact (Update.raise b ordinary).one
  · exact .refl

theorem State.removeEntry_updates (s : State) (tag : Half) : Updates s (s.removeEntry tag) := (Update.agenda _).one

theorem State.insertEntry_updates (s : State) (e : AgendaEntry) : Updates s (s.insertEntry e) := (Update.agenda _).one

theorem State.dropEntry_updates (s : State) (e : AgendaEntry) : Updates s (s.dropEntry e) :=
  (s.removeEntry_updates e.tag).tail (.await _)

theorem State.edgeDone_updates (s : State) (e : AgendaEntry) (p : Phase) : Updates s (s.edgeDone e p) :=
  s.raiseIf_updates _ rfl

/-- An action, the fired history and EDGE_DONE. -/
theorem State.fired_updates (s : State) (i : LineId) (a : LevelAction) (tag : Half) (e : AgendaEntry) (p : Phase) :
    Updates s (((s.actOn i a).recordFired tag).edgeDone e p) :=
  (((Update.act i a).one.tail (.agenda _))).trans (State.edgeDone_updates _ _ _)

theorem State.expire_updates (s : State) (e : AgendaEntry) : Updates s (s.expire e) := by
  unfold State.expire
  split
  · exact (s.fired_updates _ _ _ _ _).trans (State.dropEntry_updates _ _)
  · exact (((Update.act _ _).one.tail (.agenda _)).tail (.agenda _)).trans (State.edgeDone_updates _ _ _)
  · exact (s.fired_updates _ _ _ _ _).trans (State.dropEntry_updates _ _)

theorem State.expireDue_updates (s : State) : Updates s s.expireDue := .foldl State.expire_updates _ _

theorem State.clipNotice_updates (s : State) (i : LineId) : Updates s (s.clipNotice i) := s.raiseIf_updates _ rfl

theorem State.takeOver_updates (s : State) (i : LineId) : Updates s (s.takeOver i) := by
  unfold State.takeOver
  split
  · next h => exact (Update.take i _ h).one.tail (.raise _ rfl)
  · exact .refl

theorem State.boundaryAct_updates (s : State) (i : LineId) : Updates s (s.boundaryAct i) := by
  unfold State.boundaryAct
  split
  · exact (Update.act _ _).one
  · exact .refl
  · exact .refl

theorem State.boundaryStep_updates (taken : Bool) (s : State) (i : LineId) : Updates s (s.boundaryStep taken i) := by
  unfold State.boundaryStep
  split
  · refine ReflTransGen.trans ?_ (State.boundaryAct_updates _ _)
    split
    · exact (s.takeOver_updates i).trans (State.clipNotice_updates _ _)
    · exact s.takeOver_updates i
  · exact .refl

theorem State.patternEdge_updates (s : State) (i : LineId) : Updates s (s.patternEdge i) := by
  unfold State.patternEdge
  split
  · split
    · exact (Update.act _ _).one
    · exact .refl
  · exact .refl

theorem State.patternStep_updates (boundary taken : Bool) (s : State) (i : LineId) :
    Updates s (s.patternStep boundary taken i) := by
  refine ReflTransGen.trans ?_ (State.patternEdge_updates _ _)
  split
  · exact s.boundaryStep_updates taken i
  · exact .refl

theorem State.patternSteps_updates (s : State) (boundary taken : Bool) : Updates s (s.patternSteps boundary taken) :=
  .foldl (State.patternStep_updates boundary taken) _ _

theorem State.carryOut_updates (s : State) (o : Order) : Updates s (s.carryOut o) := by
  unfold State.carryOut
  split
  · exact s.insertEntry_updates _
  · unfold State.fireLate
    dsimp only
    split
    · exact s.fired_updates _ _ _ _ _
    · exact ((Update.act _ _).one.trans (State.insertEntry_updates _ _)).trans (State.edgeDone_updates _ _ _)

theorem State.cancelEntry_updates (s : State) (e : AgendaEntry) (complete : Bool) : Updates s (s.cancelEntry e complete) := by
  refine ReflTransGen.trans ?_ (State.dropEntry_updates _ _)
  split
  · exact (Update.act _ _).one
  · exact .refl

theorem State.removeLineEntries_updates (s : State) (i : LineId) : Updates s (s.removeLineEntries i) := by
  unfold State.removeLineEntries
  dsimp only
  split
  · exact (Update.agenda _).one
  · exact (Update.agenda _).one.tail (.await _)

theorem State.clearRule_updates (s : State) (k : RuleId) : Updates s (s.clearRule k) := by
  unfold State.clearRule
  split
  · exact (s.dropEntry_updates _).tail (.rule _ _)
  · exact (Update.rule _ _).one

theorem State.missRule_updates (s : State) (k : RuleId) (r : FollowRule) (m : MissReason) (c : Capture) :
    Updates s (s.missRule k r m c) :=
  (Update.rule _ _).one.trans (State.raiseIf_updates _ _ rfl)

theorem State.countFire_updates (s : State) (k : RuleId) (r : FollowRule) : Updates s (s.countFire k r) :=
  (Update.rule _ _).one.trans (State.raiseIf_updates _ _ rfl)

theorem State.placeFire_updates (s : State) (k : RuleId) (r : FollowRule) (due : Stamp) :
    Updates s (s.placeFire k r due) := by
  unfold State.placeFire
  split
  · exact s.insertEntry_updates _
  · dsimp only
    split
    · exact (Update.act _ _).one
    · exact (Update.act _ _).one.trans (State.insertEntry_updates _ _)

theorem State.retrigger_updates (s : State) (e : AgendaEntry) : Updates s (s.retrigger e) := by
  refine ReflTransGen.trans ?_ (State.removeEntry_updates _ _)
  split
  · exact (Update.act _ _).one
  · exact .refl

theorem State.tryFire_updates (s : State) (k : RuleId) (r : FollowRule) (due : Stamp) (c : Capture) :
    Updates s (s.tryFire k r due c).1 := by
  unfold State.tryFire
  split
  · exact s.missRule_updates _ _ _ _
  · exact (s.placeFire_updates _ _ _).trans (State.countFire_updates _ _ _)

theorem State.retriggerTest_updates (s : State) (k : RuleId) (r : FollowRule) (due : Stamp) (c : Capture) :
    Updates s (s.retriggerTest k r due c).1 := by
  unfold State.retriggerTest
  split
  · exact s.tryFire_updates _ _ _ _
  · exact s.missRule_updates _ _ _ _
  · exact ((s.retrigger_updates _).trans (State.tryFire_updates _ _ _ _ _)).tail (.await _)

theorem State.matchRule_updates (s : State) (k : RuleId) (r : FollowRule) (c : Capture) :
    Updates s (s.matchRule k r c).1 := by
  unfold State.matchRule
  dsimp only
  split
  · exact s.missRule_updates _ _ _ _
  · split
    · exact s.missRule_updates _ _ _ _
    · exact s.retriggerTest_updates _ _ _ _

theorem tryRule_updates (c : Capture) (acc : State × List RuleId) (k : RuleId) :
    Updates acc.1 (tryRule c acc k).1 := by
  unfold tryRule
  split
  · split
    · exact acc.1.matchRule_updates _ _ _
    · exact .refl
  · exact .refl

theorem tryRules_updates (c : Capture) (ks : List RuleId) (acc : State × List RuleId) :
    Updates acc.1 (ks.foldl (tryRule c) acc).1 := by
  induction ks generalizing acc with
  | nil => exact .refl
  | cons k ks ih => exact (tryRule_updates c acc k).trans (ih _)

theorem State.matchCapture_updates (s : State) (c : Capture) : Updates s (s.matchCapture c).1 :=
  tryRules_updates c ruleIds (s, [])

theorem State.noteReady_updates (s : State) : Updates s s.noteReady := by
  unfold State.noteReady
  split
  · exact (Update.queue _).one.tail (.raise _ rfl)
  · exact .refl

theorem State.noteWatermark_updates (s : State) : Updates s s.noteWatermark := by
  unfold State.noteWatermark
  split
  · exact (Update.queue _).one.tail (.raise _ rfl)
  · exact .refl

theorem State.appendEntry_updates (s : State) (entry : Half → QueueEntry) : Updates s (s.appendEntry entry) :=
  (((Update.queue _).one.trans (State.noteReady_updates _)).trans (State.noteWatermark_updates _)).tail (.await _)

theorem State.loseCapture_updates (s : State) (c : Capture) : Updates s (s.loseCapture c) := by
  unfold State.loseCapture
  split
  · exact (Update.queue _).one
  · exact (Update.queue _).one.tail (.raise _ rfl)

theorem State.takeCapture_updates (s : State) (c : Capture) (fired : List RuleId) : Updates s (s.takeCapture c fired) := by
  unfold State.takeCapture
  split
  · exact s.appendEntry_updates _
  · exact s.loseCapture_updates _

theorem State.handOver_updates (s : State) (c : Capture) : Updates s (s.handOver c) :=
  (s.matchCapture_updates c).trans (State.takeCapture_updates _ _ _)

theorem State.appendGap_updates (s : State) : Updates s s.appendGap := by
  unfold State.appendGap
  split
  · exact (Update.queue _).one.trans (State.appendEntry_updates _ _)
  · exact .refl

theorem State.releaseThrough_updates (s : State) (p : Nat) : Updates s (s.releaseThrough p) :=
  (Update.queue _).one.trans (State.appendGap_updates _)

/-- After the qualifiers' samples a tick's qualifications are writes. -/
theorem State.qualify_updates (s : State) : Updates s.sampleAll s.qualify := .foldl State.handOver_updates _ _

/-- The tick as its counts, the test at it, and writes up to the qualifiers' samples. -/
theorem State.runTick_updates (s : State) (pins : Half) :
    ∃ u, Updates (s.countTick pins) u ∧ Updates u.sampleAll (s.runTick pins) :=
  ⟨_, (((Update.await _).one.trans (State.patternSteps_updates _ _ _)).trans (State.expireDue_updates _)),
    State.qualify_updates _⟩

/-! ## What a write leaves alone -/

theorem Update.timebase {s t : State} (h : Update s t) : t.timebase = s.timebase := by cases h <;> simp

theorem Update.qualifiers {s t : State} (h : Update s t) : t.qualifiers = s.qualifiers := by cases h <;> simp

theorem Update.power {s t : State} (h : Update s t) : t.power = s.power := by cases h <;> simp

theorem Update.inputs {s t : State} (h : Update s t) : t.inputs = s.inputs := by cases h <;> simp

/-- A write keeps the mode of every line. -/
theorem Update.mode {s t : State} (h : Update s t) (i : LineId) : (t.line i).mode = (s.line i).mode := by
  cases h with
  | act j a =>
    rw [State.actOn, State.line_setLine]
    split
    · next hj => rw [← hj, Line.act_mode]
    · rfl
  | take j slot =>
    rw [State.line_setLine]
    split
    · next hj => rw [← hj]
    · rfl
  | raise => rfl
  | await ev => rw [State.line, State.awaitTest_lines]; rfl
  | agenda => rfl
  | rule => rfl
  | queue => rfl

/-- The test of the deferred AWAIT writes nothing of the link but the deferred request and its slot. -/
theorem State.awaitTest_link (s : State) (ev : AwaitEvent) :
    (s.awaitTest ev).link = { s.link with
      deferred := (s.awaitTest ev).link.deferred, deferredSlot := (s.awaitTest ev).link.deferredSlot } := by
  rcases s.awaitTest_cases ev with h | ⟨d, -, -, -, h⟩
  · rw [h]
  · rw [h]; rfl

/-- A write changes nothing of the link but the deferred request and its slot. -/
theorem Update.link {s t : State} (h : Update s t) :
    t.link = { s.link with deferred := t.link.deferred, deferredSlot := t.link.deferredSlot } := by
  cases h with
  | await ev => exact s.awaitTest_link ev
  | raise => rfl
  | act => rfl
  | take => rfl
  | agenda => rfl
  | rule => rfl
  | queue => rfl

theorem Updates.timebase {s t : State} (h : Updates s t) : t.timebase = s.timebase :=
  h.keep (P := fun u => u.timebase = s.timebase) (fun hs u => u.timebase.trans hs) rfl

theorem Updates.qualifiers {s t : State} (h : Updates s t) : t.qualifiers = s.qualifiers :=
  h.keep (P := fun u => u.qualifiers = s.qualifiers) (fun hs u => u.qualifiers.trans hs) rfl

theorem Updates.power {s t : State} (h : Updates s t) : t.power = s.power :=
  h.keep (P := fun u => u.power = s.power) (fun hs u => u.power.trans hs) rfl

theorem Updates.inputs {s t : State} (h : Updates s t) : t.inputs = s.inputs :=
  h.keep (P := fun u => u.inputs = s.inputs) (fun hs u => u.inputs.trans hs) rfl

theorem Updates.mode {s t : State} (h : Updates s t) (i : LineId) : (t.line i).mode = (s.line i).mode :=
  h.keep (P := fun u => (u.line i).mode = (s.line i).mode) (fun hs u => (u.mode i).trans hs) rfl

theorem Updates.isDrive {s t : State} (h : Updates s t) (i : LineId) : (t.line i).isDrive = (s.line i).isDrive := by
  simp only [Line.isDrive, h.mode i]

theorem Updates.link {s t : State} (h : Updates s t) :
    t.link = { s.link with deferred := t.link.deferred, deferredSlot := t.link.deferredSlot } :=
  h.keep (P := fun u => u.link = { s.link with deferred := u.link.deferred, deferredSlot := u.link.deferredSlot })
    (fun hs u => u.link.trans (by rw [hs])) rfl

end Sys2Proof.Machine
end

section
/-! The parts of a step (`Move`), and the inversion of `step` into them (`step_stepped`). Every invariant is proved move
by move (`step_keeps`). -/

namespace Sys2Proof.Machine

open Sys2Proof.Safety Relation

/-! ## Moves -/

/-- What a step is made of while no hardware reset lasts: after each of these every block's invariant holds again. A
condition on the state before stands where the step has tested it. -/
inductive Move (s : State) : State → Prop where
  | effect {t : State} (h : Effect s t) : Move s t
  | outside (pins : Half) (free : Nat) (queue : List Instr) :
      Move s { s with inputs := pins, freeCount := free, pending := queue }
  | transmit : Move s s.transmit
  | receiver (rx : Receiver) (ok : receiverOk s.link.rx = true → receiverOk rx = true) : Move s (s.setReceiver rx)
  | counters (c : LinkCounters) (ok : CountersOk s.link.counters → CountersOk c) :
      Move s { s with link := { s.link with counters := c } }
  | store (f : RequestFrame) (occupied : s.link.replySlot.isSome = true)
      (fits : receiverOk s.link.rx = true → f.payload.length ≤ 240) :
      Move s { s with link := { s.link with waiting := some f } }
  | reply (f : ReplyFrame) (free : s.link.replySlot = none) : Move s { s with link := { s.link with replySlot := some f } }
  | record (r : LastTaken) (own : r.state = .deferred → ∃ d ∈ s.link.deferred, r.seq = d.seq ∧ r.check = d.check) :
      Move s { s with link := { s.link with lastTaken := some r } }
  | restart (occupied : s.link.replySlot.isSome = true) : Move s { s with link := { s.link with restartPending := true } }
  | defer (seq : Byte) (check : Half) (c : AwaitCondition) (timeout : Nat) (range : 1 ≤ timeout ∧ timeout ≤ 60000)
      (free : s.link.deferred = none) (waits : c.holds s = false) : Move s (s.defer seq check c timeout)
  | replyDone (stays : s.link.restartPending = false) :
      Move s { s with link := { s.link with replySlot := none, waiting := none, tx := .idle } }
  | deferredDone (f : ReplyFrame) : Move s { s with link := s.link.finishDeferred f }
  | endFrame : Move s s.endFrame
  | noticeSent : Move s s.noticeSent
  | repeatExpiry (runs : s.notices.timer.isSome = true) : Move s s.repeatExpiry
  | awaitExpiry : Move s s.awaitExpiry
  | period (early : s.tickDue = false) : Move s s.period
  | tick (pins : Half) (running : s.timebase.state = .running) : Move s (s.runTick pins)

/-- Some moves, one after the other. -/
abbrev Moves : State → State → Prop := ReflTransGen Move

theorem Move.one {s t : State} (h : Move s t) : Moves s t := .single h

/-- A predicate that every move keeps is kept by moves. -/
theorem Moves.keep {P : State → Prop} (move : ∀ {s t}, P s → Move s t → P t) {s t : State} (h : Moves s t) (hs : P s) :
    P t := by
  induction h with
  | refl => exact hs
  | tail _ m ih => exact move ih m

/-! ## A change of the hold reasons -/

/-- A change of the reasons enters hold, leaves it, or writes the set and nothing else (R14 to R16). -/
theorem State.changeReasons_cases (s : State) (r : HoldReasons) :
    (s.timebase.reasons.isEmpty = true ∧ r.isEmpty = false ∧ s.changeReasons r = s.enterHold r)
      ∨ (s.timebase.reasons.isEmpty = false ∧ s.changeReasons r = s.leaveHold)
      ∨ s.changeReasons r = s
      ∨ (s.timebase.reasons.isEmpty = false ∧ r.isEmpty = false
        ∧ s.changeReasons r = { s with timebase := { s.timebase with reasons := r } }) := by
  unfold State.changeReasons
  split <;> simp_all

theorem State.leaveHold_replySlot (s : State) : s.leaveHold.link.replySlot = s.link.replySlot := by
  unfold State.leaveHold
  rw [State.awaitTest_link, State.raise_link]
  split <;> rfl

/-! ## Taking a frame -/

/-- A request leaves the reply slot to the link (R169). -/
theorem Effect.replySlot {s t : State} (h : Effect s t) : t.link.replySlot = s.link.replySlot := by
  cases h with
  | unchanged => rfl
  | present => rfl
  | clearCounters => rfl
  | start => simp
  | startZero => rw [State.enterStarted_link, State.zeroTime, State.awaitTest_link]
  | stop => simp
  | setTimebase => simp
  | reasons r =>
    rcases s.changeReasons_cases r with ⟨-, -, h⟩ | ⟨-, h⟩ | h | ⟨-, -, h⟩
    · simp [h]
    · rw [h, State.leaveHold_replySlot]
    · rw [h]
    · rw [h]
  | reconfigure i =>
    exact (congrArg Link.replySlot (s.removeLineEntries_updates i).link :)
  | writeSlot => rfl
  | clearPattern => rfl
  | read => rfl
  | release p => rw [(s.releaseThrough_updates p).link]
  | watermark => rfl
  | schedule batch => rw [(Updates.foldl State.carryOut_updates batch s).link]
  | cancel e c => rw [(s.cancelEntry_updates e c).link]
  | cancelLine i => rw [(s.removeLineEntries_updates i).link]
  | rule => rfl
  | clearRule k => rw [(s.clearRule_updates k).link]
  | acknowledge => rfl
  | configure => rfl

theorem countersOk_satInc {n : Nat} (h : n ≤ 65535) : satInc16 n ≤ 65535 := by
  unfold satInc16; split <;> omega

theorem State.countOverrun_move (s : State) : Move s s.countOverrun :=
  .counters _ fun ⟨h1, h2, h3, h4, h5, h6⟩ => ⟨h1, h2, h3, h4, countersOk_satInc h5, h6⟩

/-- A repeated frame is counted and, where the record is COMPLETED, answered from the cache (R171). -/
theorem answerRepeat_moves {s : State} (seq : Byte) (kind : BitVec 6) (record : RecordState)
    (free : s.link.replySlot = none) : Moves s { s with link := s.link.answerRepeat seq kind record } := by
  have count : Move s { s with link := { s.link with
      counters := { s.link.counters with duplicate := satInc16 s.link.counters.duplicate } } } :=
    .counters _ fun ⟨h1, h2, h3, h4, h5, h6⟩ => ⟨h1, h2, h3, h4, h5, countersOk_satInc h6⟩
  cases record with
  | completed cached => exact count.one.tail (.reply _ free)
  | deferred => exact count.one

/-- A frame taken and answered: the owner's effect, the reply placed, the record replaced. -/
theorem take_moves {s : State} {f : RequestFrame} {answer : State → Answer} (h : Answers f.seq f.check s (answer s))
    (free : s.link.replySlot = none) : Moves s (s.take f answer) := by
  cases hr : s.link.repeatOf f.seq f.check with
  | some record => rw [State.take_repeat _ hr]; exact answerRepeat_moves _ _ _ free
  | none =>
    rw [State.take_new _ hr]
    generalize answer s = a at h
    cases h with
    | reply h r => exact ((Move.effect h).one.tail (.reply _ (h.replySlot.trans free))).tail (.record _ (by simp))
    | restart r => exact ((Move.reply _ free).one.tail (.restart rfl)).tail (.record _ (by simp))
    | defer c timeout range none waits =>
      exact (Move.defer _ _ c timeout range none waits).one.tail (.record _ fun _ => ⟨_, rfl, rfl, rfl⟩)

/-- A good frame that arrives is lost, stored or taken (R168). -/
theorem State.arrive_cases (s : State) (f : RequestFrame) (answer : State → Answer) :
    s.arrive f answer = s.countOverrun
      ∨ (s.link.replySlot.isSome = true ∧ s.arrive f answer = { s with link := { s.link with waiting := some f } })
      ∨ (s.link.replySlot = none ∧ s.arrive f answer = s.take f answer) := by
  unfold State.arrive
  split
  · exact .inl rfl
  · split
    · next h => exact .inr (.inl ⟨h, rfl⟩)
    · next h => exact .inr (.inr ⟨by simpa using h, rfl⟩)

theorem arrive_moves {s : State} {f : RequestFrame} {answer : State → Answer} (h : Answers f.seq f.check s (answer s))
    (fits : f.payload.length ≤ 240) : Moves s (s.arrive f answer) := by
  rcases s.arrive_cases f answer with e | ⟨occupied, e⟩ | ⟨free, e⟩ <;> rw [e]
  · exact s.countOverrun_move.one
  · exact (Move.store f occupied fun _ => fits).one
  · exact take_moves h free

/-! ## The frame receiver -/

theorem State.discardFrame_moves (s : State) (cause : DiscardCause) : Moves s (s.discardFrame cause) := by
  refine (Move.counters (s.link.counters.raise cause) ?_).one.tail (.receiver .hunt fun _ => rfl)
  rintro ⟨h1, h2, h3, h4, h5, h6⟩
  cases cause with
  | badStop => exact ⟨countersOk_satInc h1, h2, h3, h4, h5, h6⟩
  | lengthAbove240 => exact ⟨h1, countersOk_satInc h2, h3, h4, h5, h6⟩
  | crcDiffers => exact ⟨h1, h2, countersOk_satInc h3, h4, h5, h6⟩
  | notARequest => exact ⟨h1, h2, h3, countersOk_satInc h4, h5, h6⟩

theorem State.evaluate_moves {s : State} {seq kind low : Byte} {payload : List Byte} (check : Half)
    (hrx : s.link.rx = .check seq kind payload (some low)) : Moves s (s.evaluate seq kind payload check) := by
  unfold State.evaluate
  split
  · exact s.discardFrame_moves _
  · split
    · exact s.discardFrame_moves _
    · dsimp only
      have hunt (u : State) : Move u (u.setReceiver .hunt) := .receiver _ fun _ => rfl
      generalize hf : (⟨seq, kindBits kind, payload, check⟩ : RequestFrame) = f
      rcases (s.setReceiver .hunt).arrive_cases f (answerFrame f) with e | ⟨occupied, e⟩ | ⟨free, e⟩ <;> rw [e]
      · exact (hunt s).one.tail (State.countOverrun_move _)
      · refine ReflTransGen.tail (Move.one (.store f occupied fun h => ?_)) (hunt { s with link := { s.link with waiting := some f } })
        rw [hrx] at h
        simpa [receiverOk, ← hf] using h
      · exact (hunt s).one.trans (take_moves (answerFrame_answers f _) free)

theorem State.receiveGood_moves (s : State) (v : Byte) : Moves s (s.receiveGood v) := by
  unfold State.receiveGood
  split
  · split
    · exact (Move.receiver _ fun _ => rfl).one
    · exact .refl
  · split
    · next h => exact (Move.receiver _ fun _ => by simpa [receiverOk, Config.payloadLimit] using h).one
    · exact s.discardFrame_moves _
  · next hrx => exact (Move.receiver _ fun h => by simpa [hrx, receiverOk] using h).one
  · next n _ hrx =>
    refine (Move.receiver _ fun h => ?_).one
    split
    · rfl
    · next hn =>
      have : n.toNat ≠ 0 := fun h0 => hn (BitVec.eq_of_toNat_eq h0)
      simp only [hrx, receiverOk, decide_eq_true_eq] at h ⊢
      exact ⟨h, by simpa using Nat.pos_of_ne_zero this⟩
  · next hrx =>
    refine (Move.receiver _ fun h => ?_).one
    simp only [hrx, receiverOk, decide_eq_true_eq] at h
    split
    · simp only [receiverOk, List.length_append, List.length_singleton, decide_eq_true_eq]; omega
    · simp only [receiverOk, List.length_append, List.length_singleton, decide_eq_true_eq]; omega
  · next hrx => exact (Move.receiver _ fun h => by simpa [hrx, receiverOk] using h).one
  · next hrx => exact State.evaluate_moves _ hrx

theorem State.receive_moves (s : State) (v : Byte) (good : Bool) : Moves s (s.receive v good) := by
  unfold State.receive
  split
  · exact s.receiveGood_moves v
  · split
    · exact .refl
    · exact s.discardFrame_moves _

/-! ## Completions of replies -/

theorem State.transmit_clearWaiting (s : State) :
    ({ s with link := { s.link with waiting := none } } : State).transmit
      = { s.transmit with link := { s.transmit.link with waiting := none } } := by
  by_cases ht : s.link.tx = .idle
  · cases ho : s.offered with
    | none => rw [State.transmit_none ho, State.transmit_none (by exact ho)]
    | some f => rw [State.transmit_idle ht ho, State.transmit_idle (by exact ht) (by exact ho)]; cases f <;> rfl
  · rw [State.transmit_busy ht, State.transmit_busy (by exact ht)]

/-- A reply's end: the slot empties, the transmitter chooses, and the waiting frame is taken (R175). -/
theorem State.replySent_moves {s : State} (stays : s.link.restartPending = false) : Moves s s.replySent := by
  have chosen := (Move.replyDone stays).one.tail .transmit
  generalize hu : ({ s with link := { s.link with replySlot := none, tx := .idle } } : State) = u
  have he : ({ s with link := { s.link with replySlot := none, waiting := none, tx := .idle } } : State)
      = { u with link := { u.link with waiting := none } } := by subst hu; rfl
  rw [he, State.transmit_clearWaiting] at chosen
  have free : u.transmit.link.replySlot = none := by rw [State.transmit_link]; subst hu; rfl
  have hs : s.replySent = u.transmit.takeWaiting := by subst hu; rfl
  rw [hs, State.takeWaiting]
  split
  · next f hf =>
    rw [free]
    exact chosen.trans (take_moves (answerFrame_answers f _) free)
  · next hf =>
    rwa [← hf] at chosen

/-! ## The clock -/

theorem State.mem_clockEvents {s : State} {e : ClockEvent} (h : e ∈ s.clockEvents) :
    match e with
    | .tick => s.tickDue = true
    | .awaitTimeout => s.timeoutDue = true
    | .repeatExpiry => s.repeatDue = true := by
  unfold State.clockEvents at h
  cases e <;> simpa using h

theorem State.takeClockEvent_moves {s : State} {e : ClockEvent} (h : e ∈ s.clockEvents) : Moves s (s.takeClockEvent e) := by
  have due := State.mem_clockEvents h
  cases e with
  | tick =>
    simp only [State.tickDue, State.isRunning, Bool.and_eq_true, beq_iff_eq] at due
    exact (Move.tick _ due.1).one.tail .transmit
  | awaitTimeout => exact Move.awaitExpiry.one.tail .transmit
  | repeatExpiry =>
    refine (Move.repeatExpiry ?_).one.tail .transmit
    simp only [State.repeatDue] at due
    split at due
    · next ht => rw [ht]; rfl
    · cases due

theorem State.clock_moves (s : State) : Moves s s.clock := by
  unfold State.clock
  split
  · next h =>
    refine (Move.period ?_).one
    by_contra hd
    simp [State.clockEvents, hd] at h
  · next e h => exact State.takeClockEvent_moves (by simp [h])
  · unfold State.chooseEvent
    split
    · next e he =>
      refine (Move.outside s.inputs (s.freeCount + 1) s.pending).one.trans (State.takeClockEvent_moves ?_)
      exact List.mem_of_getElem? he
    · exact .refl

theorem State.idle_moves {s : State} (h : s.power.inReset = false) : Moves s s.idle := by
  unfold State.idle
  rw [h]
  split
  · contradiction
  · split
    · exact Move.transmit.one
    · exact s.clock_moves

/-! ## The step -/

/-- Every block at its reset values, with the notice of some reset or none. -/
structure AtReset (s : State) : Prop where
  timebase : s.timebase = .reset
  lines : s.lines = .replicate 16 .reset
  qualifiers : s.qualifiers = .replicate 16 .reset
  queue : s.queue = .reset
  agenda : s.agenda = .reset
  rules : s.rules = .replicate 8 none
  notices : s.notices = .empty ∨ ∃ cause, s.notices = .reset cause
  link : s.link = .reset s.link.rate

/-- What a step can do: moves outside a hardware reset; nothing during one; the beginning of one; the end of one or a
RESTART taking effect, and then moves. -/
inductive Stepped (s : State) : State → Prop where
  | moves {t : State} (h : s.power.inReset = false) (m : Moves s t) : Stepped s t
  | nothing (queue : List Instr) (h : s.power.inReset = true) : Stepped s (s.withPending queue)
  | begun (p : Power) (queue : List Instr) : Stepped s ((s.withPending queue).beginReset p)
  | ended {u t : State} (reset : AtReset u) (power : u.power = .reset ∨ u.power = s.power ∧ s.power.inReset = false)
      (m : Moves u t) : Stepped s t

section
variable {s t : State}

theorem withPending_moves (s : State) (queue : List Instr) : Moves s (s.withPending queue) :=
  (Move.outside s.inputs s.freeCount queue).one

theorem Stepped.unchanged (s : State) : Stepped s s := by
  cases h : s.power.inReset with
  | false => exact .moves h .refl
  | true => exact .nothing s.pending h

/-- What a command does on the rest of the queue, the step does on the whole of it. -/
theorem Stepped.of_withPending {queue : List Instr} (h : Stepped (s.withPending queue) t) : Stepped s t := by
  cases h with
  | moves h m => exact .moves h ((withPending_moves s queue).trans m)
  | nothing queue' h => exact .nothing queue' h
  | begun p queue' => exact .begun p queue'
  | ended reset power m => exact .ended reset power m

theorem event_stepped {f : State → State} (moves : Moves s (f s)) (h : event f s = .next t) : Stepped s t := by
  cases hp : s.power.inReset with
  | false =>
    rw [event_next _ _ hp] at h
    cases h
    exact .moves hp (moves.tail .transmit)
  | true =>
    rw [event_inReset _ _ hp] at h
    cases h
    exact .unchanged s

theorem eventIf_stepped {p : State → Bool} {f : State → State} (moves : p s = true → Moves s (f s))
    (h : eventIf p f s = .next t) : Stepped s t := by
  unfold eventIf at h
  split at h
  · next hp => exact event_stepped (moves hp) h
  · cases h
    exact .unchanged s

theorem submit_stepped {seq : Byte} {r : Request} {answer : Half → State → Answer}
    (answers : ∀ check, Answers seq check s (answer check s)) (h : submit seq r answer s = .next t) : Stepped s t := by
  unfold submit at h
  split at h
  · next hw =>
    have fits : r.payload.length ≤ 240 := of_decide_eq_true hw
    exact event_stepped (arrive_moves (answers _) fits) h
  · cases h

/-- The command of a request, but for the levels that READ_LINES presents. -/
theorem request_stepped (seq : Byte) (r : Request) (h : submit seq r (fun check => runRequest seq check r) s = .next t) :
    Stepped s t :=
  submit_stepped (fun check => runRequest_answers seq check r s) h

theorem execReadLines_stepped {seq : Byte} {pins : Half} (h : execReadLines seq pins s = .next t) : Stepped s t :=
  submit_stepped (fun _ => .accept (.present pins) _) h

theorem execUnknownKind_stepped {seq : Byte} {kind : BitVec 6} {payload : List Byte}
    (h : execUnknownKind seq kind payload s = .next t) : Stepped s t := by
  unfold execUnknownKind at h
  split at h
  · cases h
  · next hk =>
    have fits : payload.length ≤ 240 := by
      by_contra long
      exact hk (by simp [Config.payloadLimit, Nat.lt_of_not_le long])
    exact event_stepped (arrive_moves (.refuse _) fits) h

theorem takeRepeat_moves {kind : BitVec 6} (h : s.link.takesRepeat = true) : Moves s (s.takeRepeat kind) := by
  simp only [Link.takesRepeat, Bool.and_eq_true, Option.isNone_iff_eq_none] at h
  unfold State.takeRepeat
  split
  · exact answerRepeat_moves _ _ _ h.1.2
  · exact .refl

theorem deferredSent_moves (s : State) : Moves s s.deferredSent := by
  unfold State.deferredSent
  split
  · exact (Move.deferredDone _).one
  · exact .refl

theorem firstSample_moves (s : State) (asserted : Bool) : Moves s (s.firstSample asserted) := by
  unfold State.firstSample
  split
  · exact (Move.effect (.reasons _)).one
  · exact .refl

theorem atReset_resetBlocks (s : State) (cause : RestartCause) : AtReset (s.resetBlocks cause) :=
  ⟨rfl, rfl, rfl, rfl, rfl, rfl, .inr ⟨cause, rfl⟩, rfl⟩

theorem restartEffect_stepped (pins : Half) (h : s.power.inReset = false) :
    Stepped s ({ s with inputs := pins } : State).restartEffect :=
  .ended (atReset_resetBlocks { s with inputs := pins } _) (.inr ⟨rfl, h⟩) (firstSample_moves _ _)

theorem execReplyComplete_stepped {pins : Half} (h : execReplyComplete pins s = .next t) : Stepped s t := by
  unfold execReplyComplete at h
  split at h
  · next hr =>
    simp only [Bool.and_eq_true, Bool.not_eq_true'] at hr
    obtain rfl := Host.Outcome.next.inj h
    exact restartEffect_stepped pins hr.1.1
  · next hr =>
    cases hp : s.power.inReset with
    | true =>
      rw [eventIf_inReset _ _ _ hp] at h
      cases h
      exact .unchanged s
    | false =>
      refine eventIf_stepped (fun hs => ?_) h
      have stays : s.link.restartPending = false := by simpa [hp, hs] using hr
      exact (Move.outside pins s.freeCount s.pending).one.trans (State.replySent_moves stays)

theorem endReset_stepped (s : State) (rate : Rate) (asserted : Bool) : Stepped s (s.endReset rate asserted) :=
  .ended (u := { s.resetBlocks s.power.cause with link := .reset rate, power := .reset })
    ⟨rfl, rfl, rfl, rfl, rfl, rfl, .inr ⟨_, rfl⟩, rfl⟩ (.inl rfl) (firstSample_moves _ _)

theorem execResetEnd_stepped {rate1 rate0 asserted : Bool} (h : execResetEnd rate1 rate0 asserted s = .next t) :
    Stepped s t := by
  unfold execResetEnd at h
  split at h
  · obtain rfl := Host.Outcome.next.inj h
    exact endReset_stepped s _ _
  · obtain rfl := Host.Outcome.next.inj h
    exact .unchanged _

/-- The six commands that are a tick occur only in RUNNING (R1). -/
theorem tick_stepped {p : State → Bool} {pins : Half} (running : p s = true → s.isRunning = true)
    (h : eventIf p (·.runTick pins) s = .next t) : Stepped s t :=
  eventIf_stepped (fun hp => (Move.tick pins (by simpa [State.isRunning] using running hp)).one) h

theorem State.isRunning_of_expiresNext {p : Action → Phase → Bool} {tag : Half} (h : s.expiresNext p tag = true) :
    s.isRunning = true := by
  unfold State.expiresNext at h
  split at h
  · next e he =>
    have := (Option.filter_eq_some_iff.1 he).2
    rw [Bool.and_eq_true] at this
    exact this.1
  · cases h

theorem isRunning_of_and {b : Bool} (h : (s.isRunning && b) = true) : s.isRunning = true := by
  rw [Bool.and_eq_true] at h
  exact h.1

/-- What a command can do. -/
theorem exec_stepped {c : Instr} (h : exec c s = .next t) : Stepped s t := by
  cases c with
  | identify seq => exact request_stepped seq .identify h
  | status seq clear => exact request_stepped seq (.status clear) h
  | await seq condition argument timeout => exact request_stepped seq (.await condition argument timeout) h
  | restart seq => exact request_stepped seq .restart h
  | start seq origin => exact request_stepped seq (.start origin) h
  | stop seq => exact request_stepped seq .stop h
  | setTimebase seq exponent length guard => exact request_stepped seq (.setTimebase exponent length guard) h
  | hold seq => exact request_stepped seq .hold h
  | resume seq => exact request_stepped seq .resume h
  | setLine seq line mode polarity filter idle holdAction =>
    exact request_stepped seq (.setLine line mode polarity filter idle holdAction) h
  | readLines seq pins => exact execReadLines_stepped h
  | writeSlot seq line slot boundary edges => exact request_stepped seq (.writeSlot line slot boundary edges) h
  | clearPattern seq line => exact request_stepped seq (.clearPattern line) h
  | readCaptures seq source qseq max => exact request_stepped seq (.readCaptures source qseq max) h
  | releaseCaptures seq upto => exact request_stepped seq (.releaseCaptures upto) h
  | setQueue seq watermark => exact request_stepped seq (.setQueue watermark) h
  | schedule seq orders => exact request_stepped seq (.schedule orders) h
  | cancel seq tag complete => exact request_stepped seq (.cancel tag complete) h
  | cancelLine seq line => exact request_stepped seq (.cancelLine line) h
  | listAgenda seq first count => exact request_stepped seq (.listAgenda first count) h
  | setFollow seq id settings => exact request_stepped seq (.setFollow id settings) h
  | armFollow seq id => exact request_stepped seq (.armFollow id) h
  | disarmFollow seq id => exact request_stepped seq (.disarmFollow id) h
  | clearFollow seq id => exact request_stepped seq (.clearFollow id) h
  | readFollow seq id => exact request_stepped seq (.readFollow id) h
  | ackNotices seq upto => exact request_stepped seq (.ackNotices upto) h
  | setNotices seq mask interval => exact request_stepped seq (.setNotices mask interval) h
  | unknownKind seq kind payload => exact execUnknownKind_stepped h
  | duplicateFrame kind =>
    have h : execDuplicateFrame kind s = .next t := h
    exact eventIf_stepped (f := State.takeRepeat kind) takeRepeat_moves h
  | frameDiscard cause =>
    have h : execFrameDiscard cause s = .next t := h
    exact eventIf_stepped (f := State.discardFrame cause) (fun _ => s.discardFrame_moves cause) h
  | overrun =>
    have h : execOverrun s = .next t := h
    exact eventIf_stepped (f := State.countOverrun) (fun _ => s.countOverrun_move.one) h
  | byteGapExpiry =>
    have h : execByteGapExpiry s = .next t := h
    exact eventIf_stepped (f := State.discardFrame .badStop) (fun _ => s.discardFrame_moves .badStop) h
  | replyComplete pins => exact execReplyComplete_stepped h
  | deferredReplyComplete =>
    have h : execDeferredReplyComplete s = .next t := h
    exact eventIf_stepped (f := State.deferredSent) (fun _ => deferredSent_moves s) h
  | noticeFrameComplete =>
    have h : execNoticeFrameComplete s = .next t := h
    exact eventIf_stepped (f := State.noticeSent) (fun _ => Move.noticeSent.one) h
  | repeatFrameComplete =>
    have h : execRepeatFrameComplete s = .next t := h
    exact eventIf_stepped (f := State.endFrame) (fun _ => Move.endFrame.one) h
  | repeatTimerExpiry =>
    have h : execRepeatTimerExpiry s = .next t := h
    exact eventIf_stepped (f := State.repeatExpiry) (fun runs => (Move.repeatExpiry runs).one) h
  | awaitTimeout =>
    have h : execAwaitTimeout s = .next t := h
    exact eventIf_stepped (f := State.awaitExpiry) (fun _ => Move.awaitExpiry.one) h
  | holdPinAsserted =>
    have h : execHoldPinAsserted s = .next t := h
    exact eventIf_stepped (f := State.pinAsserted) (fun _ => (Move.effect (.reasons _)).one) h
  | holdPinReleased =>
    have h : execHoldPinReleased s = .next t := h
    exact eventIf_stepped (f := State.pinReleased) (fun _ => (Move.effect (.reasons _)).one) h
  | tick pins => exact tick_stepped (p := State.isRunning) id h
  | cycleBoundary pins => exact tick_stepped (p := fun u => u.isRunning && u.timebase.atBoundary) isRunning_of_and h
  | expireSingleAction tag pins => exact tick_stepped State.isRunning_of_expiresNext h
  | expirePulseLead tag pins => exact tick_stepped State.isRunning_of_expiresNext h
  | expirePulseTrail tag pins => exact tick_stepped State.isRunning_of_expiresNext h
  | captureQualified line pins =>
    exact tick_stepped (p := fun u => u.isRunning && ((u.countTick pins).captureAt line).isSome) isRunning_of_and h
  | powerUp =>
    obtain rfl := Host.Outcome.next.inj h
    exact .begun _ s.pending
  | resetAsserted =>
    obtain rfl := Host.Outcome.next.inj h
    exact .begun _ s.pending
  | resetEnd rate1 rate0 asserted => exact execResetEnd_stepped h
  | characterReceived v good pins =>
    have h : execCharacterReceived v good pins s = .next t := h
    exact event_stepped ((Move.outside pins s.freeCount s.pending).one.trans (State.receive_moves _ v good)) h
  | vddBelowThreshold =>
    obtain rfl := Host.Outcome.next.inj h
    exact .begun _ s.pending

/-- What a step can do. -/
theorem step_stepped (h : step s = .next t) : Stepped s t := by
  unfold step at h
  split at h
  · exact (exec_stepped h).of_withPending
  · obtain rfl := Host.Outcome.next.inj h
    cases hr : s.power.inReset with
    | false => exact .moves hr (State.idle_moves hr)
    | true =>
      have : s.idle = s := by simp [State.idle, hr]
      rw [this]
      exact .unchanged s

end

/-- A predicate that every move keeps and that holds of the reset values is kept by every step. -/
theorem step_keeps {P : State → Prop} (move : ∀ {s t}, P s → Move s t → P t) (reset : ∀ {s}, AtReset s → P s)
    {s t : State} (hs : P s) (h : step s = .next t) : P t := by
  cases step_stepped h with
  | moves _ m => exact m.keep move hs
  | nothing queue => exact (withPending_moves s queue).keep move hs
  | begun p queue => exact reset ⟨rfl, rfl, rfl, rfl, rfl, rfl, .inl rfl, rfl⟩
  | ended at_reset _ m => exact m.keep move (reset at_reset)

end Sys2Proof.Machine
end

section
/-! The timebase's ranges, kept by every step. -/

namespace Sys2Proof.Machine

open Sys2Proof.Safety

/-! ## What the operations of the timebase keep -/

section
variable {t : Timebase}

theorem timebaseOk_reset : TimebaseOk .reset := by decide

/-- A write of the three counts within the length. -/
theorem timebaseOk_zeroed (h : TimebaseOk t) : TimebaseOk t.zeroed := by
  obtain ⟨hl, ho, hs, hp, hc, hz, hr, hh⟩ := h
  exact ⟨hl, by simp only [Timebase.zeroed]; omega, hs, hp, hc, hz, hr, hh⟩

/-- The offset stays below the length that a boundary takes (R2, R10). -/
theorem timebaseOk_advance (h : TimebaseOk t) : TimebaseOk t.advance := by
  obtain ⟨hl, ho, hs, hp, hc, hz, hr, hh⟩ := h
  unfold Timebase.advance Timebase.atBoundary
  split
  · have next : LengthOk (t.staged.getD t.length) := by
      cases e : t.staged with
      | none => exact hl
      | some n => exact (hs n e).1
    exact ⟨next, Nat.lt_of_lt_of_le Nat.two_pos next.1, by simp, hp, Nat.zero_le _, fun _ => rfl, hr, hh⟩
  · next hb =>
    have within : t.offset + 1 < t.length := by simp only [decide_eq_true_eq] at hb; omega
    exact ⟨hl, within, hs, hp, Nat.zero_le _, fun _ => rfl, hr, hh⟩

/-- The state is written with the count at 0, where it agrees with the hold reasons (R5). -/
theorem timebaseOk_enter (h : TimebaseOk t) {st : TimebaseState} {r : HoldReasons}
    (hr : st = .running → r.isEmpty = true) (hh : st = .held → r.isEmpty = false) :
    TimebaseOk { t with state := st, count := 0, reasons := r } := by
  obtain ⟨hl, ho, hs, hp, -, -, -, -⟩ := h
  exact ⟨hl, ho, hs, hp, Nat.zero_le _, fun _ => rfl, hr, hh⟩

/-- The reasons alone are written, in a state that they suit. -/
theorem timebaseOk_reasons (h : TimebaseOk t) {r : HoldReasons} (hr : t.state = .running → r.isEmpty = true)
    (hh : t.state = .held → r.isEmpty = false) : TimebaseOk { t with reasons := r } := by
  obtain ⟨hl, ho, hs, hp, hc, hz, -, -⟩ := h
  exact ⟨hl, ho, hs, hp, hc, hz, hr, hh⟩

theorem timebaseOk_applyLength (h : TimebaseOk t) {n : Nat} (hn : LengthOk n) : TimebaseOk (t.applyLength n) := by
  obtain ⟨-, ho, -, hp, hc, hz, hr, hh⟩ := h
  refine ⟨hn, ?_, by simp [Timebase.applyLength], hp, hc, hz, hr, hh⟩
  have := hn.1
  simp only [Timebase.applyLength]
  split <;> omega

theorem timebaseOk_stageLength (h : TimebaseOk t) {n : Nat} (hn : LengthOk n) : TimebaseOk (t.stageLength n) := by
  obtain ⟨hl, ho, -, hp, hc, hz, hr, hh⟩ := h
  refine ⟨hl, ho, ?_, hp, hc, hz, hr, hh⟩
  intro m hm
  simp only [Timebase.stageLength] at hm
  split at hm
  · cases hm
  · next hne => cases hm; exact ⟨hn, hne⟩

/-- Another exponent comes only in STOPPED, where the prescale count stands at 0 (R8). -/
theorem timebaseOk_settings (h : TimebaseOk t) {p : Nat} {g : Bool} (hp : p ≤ 8)
    (same : t.state ≠ .stopped → p = t.prescale) : TimebaseOk { t with prescale := p, holdGuard := g } := by
  obtain ⟨hl, ho, hs, -, hc, hz, hr, hh⟩ := h
  refine ⟨hl, ho, hs, hp, ?_, hz, hr, hh⟩
  by_cases hst : t.state = .stopped
  · simp [hz (by simp [hst])]
  · rw [same hst]; exact hc

end

/-! ## Steps -/

theorem timebaseOk_enterStarted {s : State} (h : TimebaseOk s.timebase) (stopped : s.timebase.state = .stopped) :
    TimebaseOk s.enterStarted.timebase := by
  have zero : s.timebase.count = 0 := h.2.2.2.2.2.1 (by simp [stopped])
  unfold State.enterStarted
  split
  · next hr => exact timebaseOk_enter h (fun _ => hr) (by simp)
  · next hr =>
    have := timebaseOk_enter h (st := .held) (r := s.timebase.reasons) (by simp) (by simpa using hr)
    rwa [← zero] at this

theorem timebaseOk_stopTime {s : State} (h : TimebaseOk s.timebase) : TimebaseOk s.stopTime.timebase := by
  unfold State.stopTime
  split
  · exact h
  · exact timebaseOk_enter h (by simp) (by simp)
  · exact timebaseOk_enter h (by simp) (by simp)

theorem timebaseOk_setTimebase {s : State} (h : TimebaseOk s.timebase) {p n : Nat} {g : Bool} (hp : p ≤ 8)
    (hn : LengthOk n) (same : s.timebase.state ≠ .stopped → p = s.timebase.prescale) :
    TimebaseOk (s.setTimebase p n g).timebase := by
  have set := timebaseOk_settings (g := g) h hp same
  unfold State.setTimebase
  dsimp only
  split
  · unfold State.lengthAtOnce
    dsimp only
    split
    · exact timebaseOk_applyLength set hn
    · rw [(Updates.foldl State.clipNotice_updates _ _).timebase]
      exact timebaseOk_applyLength set hn
  · exact timebaseOk_stageLength set hn

/-- SET_TIMEBASE writes the timebase, and the lines that it clips report (R8, R117). -/
theorem State.setTimebase_updates (s : State) (p n : Nat) (g : Bool) :
    ∃ tb, Updates { s with timebase := tb } (s.setTimebase p n g) := by
  unfold State.setTimebase State.lengthAtOnce
  dsimp only
  split
  · split
    · exact ⟨_, .refl⟩
    · exact ⟨_, .foldl State.clipNotice_updates _ _⟩
  · exact ⟨_, .refl⟩

/-- The timebase when hold is entered (R14). -/
theorem State.enterHold_timebase (s : State) (r : HoldReasons) :
    (s.enterHold r).timebase = { s.timebase with
      state := if s.timebase.state = .running then .held else s.timebase.state
      count := if s.timebase.state = .running then 0 else s.timebase.count
      reasons := r } := by
  unfold State.enterHold
  dsimp only
  split <;> rfl

/-- The timebase when hold is left (R15). -/
theorem State.leaveHold_timebase (s : State) :
    s.leaveHold.timebase = { s.timebase with
      state := if s.timebase.state = .held then .running else s.timebase.state
      count := if s.timebase.state = .held then 0 else s.timebase.count
      reasons := ⟨false, false⟩ } := by
  unfold State.leaveHold
  rw [State.awaitTest_timebase]
  dsimp only
  split <;> rfl

theorem timebaseOk_changeReasons {s : State} (h : TimebaseOk s.timebase) (r : HoldReasons) :
    TimebaseOk (s.changeReasons r).timebase := by
  have hrun := h.2.2.2.2.2.2.1
  have hheld := h.2.2.2.2.2.2.2
  rcases s.changeReasons_cases r with ⟨empty, hr, e⟩ | ⟨full, e⟩ | e | ⟨full, hr, e⟩
  · rw [e, State.enterHold_timebase]
    split
    · exact timebaseOk_enter h (by simp) (fun _ => hr)
    · next hst => exact timebaseOk_reasons h (fun h => absurd h hst) (fun _ => hr)
  · rw [e, State.leaveHold_timebase]
    split
    · exact timebaseOk_enter h (fun _ => rfl) (by simp)
    · next hst => exact timebaseOk_reasons h (fun _ => rfl) (fun h => absurd h hst)
  · rwa [e]
  · rw [e]
    exact timebaseOk_reasons h (fun hs => by simp [hrun hs] at full) (fun _ => hr)

theorem timebaseOk_effect {s t : State} (h : TimebaseOk s.timebase) (e : Effect s t) : TimebaseOk t.timebase := by
  cases e with
  | start stopped => exact timebaseOk_enterStarted h stopped
  | startZero stopped _ =>
    have zeroed : s.zeroTime.timebase = s.timebase.zeroed := by rw [State.zeroTime, State.awaitTest_timebase]
    refine timebaseOk_enterStarted ?_ (by rw [zeroed]; exact stopped)
    rw [zeroed]
    exact timebaseOk_zeroed h
  | stop => exact timebaseOk_stopTime h
  | setTimebase p n g exponent length same => exact timebaseOk_setTimebase h exponent length same
  | reasons r => exact timebaseOk_changeReasons h r
  | schedule batch => rwa [(Updates.foldl State.carryOut_updates batch s).timebase]
  | cancel e complete => rwa [State.cancelEntry_timebase]
  | unchanged | present | clearCounters | reconfigure | writeSlot | clearPattern | read | release | watermark | cancelLine
    | rule | clearRule | acknowledge | configure => simpa using h

/-- A period is counted only before the tick is due (R1). -/
theorem timebaseOk_period {s : State} (h : TimebaseOk s.timebase) (early : s.tickDue = false) :
    TimebaseOk s.period.timebase := by
  obtain ⟨hl, ho, hs, hp, hc, hz, hr, hh⟩ := h
  refine ⟨hl, ho, hs, hp, ?_, ?_, hr, hh⟩
  · simp only [State.period]
    split
    · next running => simp only [State.tickDue, running, Bool.true_and, decide_eq_false_iff_not] at early; omega
    · exact hc
  · intro (hst : s.timebase.state ≠ .running)
    have : s.isRunning = false := by simpa [State.isRunning] using hst
    simpa [State.period, this] using hz hst

theorem timebaseOk_move {s t : State} (h : TimebaseOk s.timebase) (m : Move s t) : TimebaseOk t.timebase := by
  cases m with
  | effect e => exact timebaseOk_effect h e
  | period early => exact timebaseOk_period h early
  | tick pins => rw [State.runTick_timebase]; exact timebaseOk_advance h
  | outside | transmit | receiver | counters | store | reply | record | restart | defer | replyDone | deferredDone | endFrame
    | noticeSent | repeatExpiry | awaitExpiry => simpa using h

end Sys2Proof.Machine

namespace Sys2Proof.Claims

open Sys2Proof.Machine Sys2Proof.Safety

/-- Settles O55: every move keeps the ranges, and the reset values lie in them. -/
theorem stepKeepsTheTimebase : Obligations.StepKeepsTheTimebase := fun _ _ hs h =>
  step_keeps (P := fun s => TimebaseOk s.timebase) timebaseOk_move (fun r => r.timebase ▸ timebaseOk_reset) hs h

end Sys2Proof.Claims
end

section
/-! The requests of the timebase and hold, and the pin, as their statements give them. -/

namespace Sys2Proof.Claims

open Sys2Proof.Machine Sys2Proof.Safety

/-! ## A request that is taken -/

/-- The command of a request hands its frame to the owner; READ_LINES presents levels as well. -/
theorem exec_command (seq : Byte) (pins : Half) (r : Request) (other : r ≠ .readLines) (s : State) :
    exec (command seq pins r) s = submit seq r (fun check => runRequest seq check r) s := by
  cases r with
  | readLines => exact absurd rfl other
  | _ => rfl

/-- A request that is taken and answered: its owner's state, answered. -/
theorem exec_answered {seq : Byte} (pins : Half) {r : Request} {s t : State} {reply : Reply} (other : r ≠ .readLines)
    (fits : r.wellFormed = true) (takes : Takes s seq r)
    (h : runRequest seq (frameOf seq r).check r s = (t, some reply)) :
    exec (command seq pins r) s = .next (answered t seq r reply) := by
  obtain ⟨alive, waits, free, new⟩ := takes
  rw [exec_command seq pins r other]
  exact submit_answered fits alive waits free new h

theorem readFlag_eq_none {b : Byte} : readFlag b = none ↔ b ≠ 0 ∧ b ≠ 1 := by
  unfold readFlag
  split <;> simp_all

theorem isEmpty_iff (r : HoldReasons) : r.isEmpty = true ↔ r = ⟨false, false⟩ := by
  obtain ⟨p, l⟩ := r
  cases p <;> cases l <;> decide

/-! ## START and STOP -/

theorem enterStarted_eq_setGoing (s : State) : s.enterStarted = setGoing s := by
  unfold State.enterStarted setGoing
  simp only [isEmpty_iff]
  rfl

/-- The state that START enters, and T, which it leaves (R6). -/
theorem setGoing_timebase (s : State) :
    (setGoing s).timebase.state = (if s.timebase.reasons = ⟨false, false⟩ then .running else .held)
      ∧ (setGoing s).timebase.time = s.timebase.time := by
  unfold setGoing
  split <;> exact ⟨rfl, rfl⟩

/-- The reply of START carries the state entered and T. -/
theorem startReply_setGoing (s : State) :
    startReply (setGoing s) = (setGoing s, some (okay (.start
      (if s.timebase.reasons = ⟨false, false⟩ then .running else .held) s.timebase.time))) := by
  obtain ⟨state, time⟩ := setGoing_timebase s
  rw [startReply, accept, state, time]

section
variable {origin : Byte} {s : State}

theorem startRequest_range (h : origin ≠ 0 ∧ origin ≠ 1) : startRequest origin s = refuse .badField s := by
  rw [startRequest, readFlag_eq_none.2 h]

theorem startRequest_started (range : ¬(origin ≠ 0 ∧ origin ≠ 1)) (h : s.timebase.state ≠ .stopped) :
    startRequest origin s = refuse .wrongState s := by
  obtain rfl | rfl : origin = 0 ∨ origin = 1 := by tauto
  · exact if_pos h
  · exact if_pos h

theorem startRequest_keep (h : s.timebase.state = .stopped) : startRequest 0 s = startReply (setGoing s) := by
  rw [← enterStarted_eq_setGoing]
  exact if_neg (not_not.2 h)

theorem startRequest_zero (h : s.timebase.state = .stopped) :
    startRequest 1 s
      = if s.agenda.entries ≠ [] then refuse .wrongState s else startReply (setGoing s.zeroTime) := by
  rw [← enterStarted_eq_setGoing]
  refine (if_neg (not_not.2 h)).trans ?_
  cases s.agenda.entries <;> rfl

end

/-- Settles O16: the checks in their order, then the two origins. -/
theorem startSetsTimeGoing : Obligations.StartSetsTimeGoing := by
  intro seq origin s takes
  have respond {t : State} {reply : Reply} (h : startRequest origin s = (t, some reply)) :
      exec (.start seq origin) s = .next (answered t seq (.start origin) reply) :=
    exec_answered 0 (by simp) rfl takes h
  dsimp only
  split
  · next range => exact respond (startRequest_range range)
  next range =>
  split
  · next started => exact respond (startRequest_started range started)
  next started =>
  rw [not_not] at started
  split
  · next keep =>
    subst keep
    exact respond ((startRequest_keep started).trans (startReply_setGoing s))
  next zero =>
  obtain rfl : origin = 1 := by tauto
  have zeroed : s.zeroTime.timebase.reasons = s.timebase.reasons := by
    rw [State.zeroTime, State.awaitTest_timebase]; rfl
  split
  · next held => exact respond ((startRequest_zero started).trans (if_pos held))
  · next empty =>
    refine respond (((startRequest_zero started).trans (if_neg empty)).trans ?_)
    rw [startReply_setGoing, zeroed]
    rfl

/-- The part after STOP (R7). -/
theorem stopTime_eq (s : State) :
    s.stopTime = { s with
      timebase := { s.timebase with
        state := .stopped, count := if s.timebase.state = .stopped then s.timebase.count else 0 }
      qualifiers :=
        if s.timebase.state = .running then s.qualifiers.map fun q => { q with state := .waiting }
        else s.qualifiers } := by
  unfold State.stopTime
  split
  · next h =>
    have same : { s.timebase with state := .stopped } = s.timebase := by rw [← h]
    simp [h, same]
  · next h => simp [h, State.leaveRunning, State.abandonAll]
  · next h => simp [h]

/-- Settles O17: STOP from each of the three states. -/
theorem stopHaltsTime : Obligations.StopHaltsTime := by
  intro seq s takes
  refine exec_answered (r := .stop) 0 (by simp) rfl takes ?_
  rw [← stopTime_eq]
  rfl

/-! ## SET_TIMEBASE -/

/-- The clipped edges, counted as the statements count them (R116). -/
theorem clippedCount_eq (l : Line) (n : Nat) : l.clippedCount n = clippedEdges l n := by
  unfold Line.clippedCount clippedEdges Line.activePattern Line.slot
  cases l.active <;> rfl

/-- The report of a line whose active pattern the length `n` clips (R117). -/
def clipReport (n : Nat) (t : State) (i : LineId) : State :=
  if (t.line i).isDrive = true ∧ 1 ≤ clippedEdges (t.line i) n then
    { t with
      notices := t.notices.raise t.timebase.time (.patternClipped i (t.line i).active (clippedEdges (t.line i) n)) }
  else t

theorem clipNotice_eq_clipReport (t : State) (i : LineId) : t.clipNotice i = clipReport t.timebase.length t i := by
  simp only [State.clipNotice, clipReport, State.raiseIf, clippedCount_eq, Bool.and_eq_true, decide_eq_true_eq]
  rfl

theorem clipReport_timebase (n : Nat) (t : State) (i : LineId) : (clipReport n t i).timebase = t.timebase := by
  unfold clipReport
  split <;> rfl

/-- The reports change no length, so that one length serves for every line. -/
theorem foldl_clipNotice (ids : List LineId) (t : State) :
    ids.foldl State.clipNotice t = ids.foldl (clipReport t.timebase.length) t := by
  induction ids generalizing t with
  | nil => rfl
  | cons i ids ih => rw [List.foldl_cons, List.foldl_cons, ih, State.clipNotice_timebase, clipNotice_eq_clipReport]

/-- The guard's byte reads as whether it is 1. -/
theorem readFlag_of_range {b : Byte} (h : b = 0 ∨ b = 1) : readFlag b = some (b == 1) := by
  obtain rfl | rfl := h <;> rfl

section
variable {exponent : Byte} {length : Quad} {guard : Byte} {s : State}

theorem setTimebaseRequest_range
    (h : 8 < exponent.toNat ∨ length.toNat < 2 ∨ 65536 < length.toNat ∨ (guard ≠ 0 ∧ guard ≠ 1)) :
    setTimebaseRequest exponent length guard s = refuse .badField s := by
  unfold setTimebaseRequest
  split
  · rfl
  · next hg =>
    refine if_pos ?_
    have := readFlag_cases hg
    tauto

theorem setTimebaseRequest_inRange
    (h : ¬(8 < exponent.toNat ∨ length.toNat < 2 ∨ 65536 < length.toNat ∨ (guard ≠ 0 ∧ guard ≠ 1))) :
    setTimebaseRequest exponent length guard s
      = if s.timebase.state ≠ .stopped ∧ exponent.toNat ≠ s.timebase.prescale then refuse .wrongState s
        else lengthsReply (s.setTimebase exponent.toNat length.toNat (guard == 1)) := by
  unfold setTimebaseRequest
  rw [readFlag_of_range (by tauto)]
  exact if_neg (by tauto)

end

/-- In STOPPED the length applies at once, and every line it clips reports (R9, R117). -/
theorem setTimebase_stopped {s : State} (h : s.timebase.state = .stopped) (p n : Nat) (g : Bool) :
    s.setTimebase p n g
      = (let applied := { s with timebase := { s.timebase with
            prescale := p, holdGuard := g, length := n, staged := none
            offset := if n ≤ s.timebase.offset then n - 1 else s.timebase.offset } }
        if n = s.timebase.length then applied else allLines.foldl (clipReport n) applied) := by
  refine (if_pos h).trans ?_
  rw [State.lengthAtOnce, foldl_clipNotice]
  rfl

/-- Outside STOPPED the length is staged (R10). -/
theorem setTimebase_started {s : State} (h : s.timebase.state ≠ .stopped) (p n : Nat) (g : Bool) :
    s.setTimebase p n g = { s with timebase := { s.timebase with
      prescale := p, holdGuard := g, staged := if n = s.timebase.length then none else some n } } := by
  unfold State.setTimebase
  exact if_neg h

/-- Settles O18: the checks in their order, then the length at once or staged. -/
theorem setTimebaseAppliesOrStages : Obligations.SetTimebaseAppliesOrStages := by
  intro seq exponent length guard s takes
  have respond {t : State} {reply : Reply} (h : setTimebaseRequest exponent length guard s = (t, some reply)) :
      exec (.setTimebase seq exponent length guard) s = .next (answered t seq (.setTimebase exponent length guard) reply) :=
    exec_answered 0 (by simp) rfl takes h
  dsimp only
  split
  · next range => exact respond (setTimebaseRequest_range range)
  next range =>
  have inRange := setTimebaseRequest_inRange (s := s) range
  split
  · next stopped =>
    rw [if_neg (by simp [stopped]), setTimebase_stopped stopped] at inRange
    refine respond (inRange.trans ?_)
    dsimp only
    split
    · rfl
    · rw [lengthsReply, accept, foldl_keeps State.timebase _ (clipReport_timebase _)]
      rfl
  next started =>
  split
  · next other => exact respond (inRange.trans (if_pos ⟨started, other⟩))
  · next same =>
    rw [if_neg (by tauto), setTimebase_started started] at inRange
    exact respond inRange

end Sys2Proof.Claims
end

section
/-! Hold, the hold guard and the hardware reset, as their statements give them. -/

namespace Sys2Proof.Claims

open Sys2Proof.Machine Sys2Proof.Safety

/-! ## Hold entered and left -/

/-- The part after the reasons went from empty to `r` (R14, R31). -/
theorem enterHold_eq (s : State) (r : HoldReasons) : s.enterHold r = holdEntered s r := by
  unfold State.enterHold holdEntered
  by_cases h : s.timebase.state = .running
  · simp only [h]; rfl
  · simp only [h]; rfl

/-- The part after the reasons became empty (R15, R34), the deferred AWAIT tested. -/
theorem leaveHold_eq (s : State) : s.leaveHold = (holdLeft s).awaitTest .holdCleared := by
  unfold State.leaveHold holdLeft
  by_cases h : s.timebase.state = .held
  · simp only [h]; rfl
  · simp only [h]; rfl

section
variable {s : State} {r : HoldReasons}

theorem changeReasons_enter (h : s.timebase.reasons = ⟨false, false⟩) (hr : r.isEmpty = false) :
    s.changeReasons r = holdEntered s r := by
  rw [← enterHold_eq, State.changeReasons, h, hr]
  rfl

theorem changeReasons_leave (h : s.timebase.reasons.isEmpty = false) :
    s.changeReasons ⟨false, false⟩ = (holdLeft s).awaitTest .holdCleared := by
  rw [← leaveHold_eq, State.changeReasons, h]
  rfl

/-- Where the set is empty before and after, or neither, only the set is written. -/
theorem changeReasons_same (h : s.timebase.reasons.isEmpty = r.isEmpty) :
    s.changeReasons r = { s with timebase := { s.timebase with reasons := r } } := by
  rcases s.changeReasons_cases r with ⟨empty, full, -⟩ | ⟨full, e⟩ | e | ⟨-, -, e⟩
  · simp [h, full] at empty
  · rw [h] at full
    rw [State.changeReasons, h, full]
  · rw [e]
    cases hr : r.isEmpty with
    | true =>
      rw [hr] at h
      rw [(isEmpty_iff _).1 hr, ← (isEmpty_iff _).1 h]
    | false => rw [← e, State.changeReasons, h, hr]
  · exact e

end

theorem exec_holdPinAsserted {s : State} (alive : s.power.inReset = false) (released : s.timebase.reasons.pin = false) :
    exec .holdPinAsserted s = .next (s.changeReasons ⟨true, s.timebase.reasons.link⟩).transmit :=
  eventIf_next (fun s => !s.timebase.reasons.pin) State.pinAsserted s alive (by rw [released]; rfl)

theorem exec_holdPinReleased {s : State} (alive : s.power.inReset = false) (asserted : s.timebase.reasons.pin = true) :
    exec .holdPinReleased s = .next (s.changeReasons ⟨false, s.timebase.reasons.link⟩).transmit :=
  eventIf_next (fun s => s.timebase.reasons.pin) State.pinReleased s alive asserted

theorem exec_hold {seq : Byte} {s : State} (takes : Takes s seq .hold) :
    exec (.hold seq) s
      = .next (answered (s.changeReasons ⟨s.timebase.reasons.pin, true⟩) seq .hold
          (okay (.reasons ⟨s.timebase.reasons.pin, true⟩))) :=
  exec_answered (r := .hold) 0 (by simp) rfl takes rfl

theorem exec_resume {seq : Byte} {s : State} (takes : Takes s seq .resume) :
    exec (.resume seq) s
      = .next (answered (s.changeReasons ⟨s.timebase.reasons.pin, false⟩) seq .resume
          (okay (.reasons ⟨s.timebase.reasons.pin, false⟩))) :=
  exec_answered (r := .resume) 0 (by simp) rfl takes rfl

/-- Settles O19: HOLD and the pin each make the first reason. -/
theorem holdIsEntered : Obligations.HoldIsEntered := by
  intro seq s none
  refine ⟨fun takes => ?_, fun alive => ?_⟩
  · rw [exec_hold takes, none, changeReasons_enter none rfl]
  · rw [exec_holdPinAsserted alive (by rw [none]), none, changeReasons_enter none rfl]

/-- Settles O20: RESUME and the pin each take the last reason away. -/
theorem holdIsLeft : Obligations.HoldIsLeft := by
  intro seq s
  refine ⟨fun link takes => ?_, fun pin alive => ?_⟩
  · rw [exec_resume takes, link, changeReasons_leave (by rw [link]; rfl)]
  · rw [exec_holdPinReleased alive (by rw [pin]), pin, changeReasons_leave (by rw [pin]; rfl)]

/-- Settles O21: where the set stays empty or stays non-empty, only the set is written. -/
theorem otherReasonChangesDoNothingElse : Obligations.OtherReasonChangesDoNothingElse := by
  intro seq s
  refine ⟨fun some takes => ?_, fun stays takes => ?_, fun pin link alive => ?_, fun pin link alive => ?_⟩
  · rw [exec_hold takes, changeReasons_same]
    rcases some with h | h <;> simp [HoldReasons.isEmpty, h]
  · rw [exec_resume takes, changeReasons_same]
    rcases stays with h | h <;> simp [HoldReasons.isEmpty, h]
  · rw [exec_holdPinAsserted alive pin, link, changeReasons_same (by simp [HoldReasons.isEmpty, link])]
  · rw [exec_holdPinReleased alive pin, link, changeReasons_same (by simp [HoldReasons.isEmpty, link])]

/-! ## The hold guard -/

theorem guarded_of {s : State} (guard : s.timebase.holdGuard = true) (hold : s.timebase.reasons ≠ ⟨false, false⟩) :
    s.guarded = true := by
  have : s.timebase.reasons.isEmpty = false := by rwa [← Bool.not_eq_true, isEmpty_iff]
  simp [State.guarded, guard, this]

theorem readLine_isSome (b : Byte) : (readLine b).isSome = decide (b.toNat < 16) := by
  unfold readLine
  split <;> simp_all

theorem readRuleId_isSome (b : Byte) : (readRuleId b).isSome = decide (b.toNat < 8) := by
  unfold readRuleId
  split <;> simp_all

theorem readFlag_isSome (b : Byte) : (readFlag b).isSome = (b == 0 || b == 1) := by
  cases h : readFlag b with
  | none =>
    obtain ⟨h0, h1⟩ := readFlag_eq_none.1 h
    rw [beq_eq_false_iff_ne.2 h0, beq_eq_false_iff_ne.2 h1]
    rfl
  | some f => rcases readFlag_cases h with ⟨rfl, -⟩ | ⟨rfl, -⟩ <;> rfl

/-- The batch is read, or its first order that fails the range check is found (R82, R83). -/
theorem readBatch_findIdx? (k : Nat) (orders : List RawOrder) :
    match readBatch k orders with
    | .ok _ => (orders.findIdx? fun o => (readOrder o).isNone) = none
    | .error j => ∃ i, (orders.findIdx? fun o => (readOrder o).isNone) = some i ∧ j = k + i := by
  induction orders generalizing k with
  | nil => rfl
  | cons o rest ih =>
    have ih := ih (k + 1)
    unfold readBatch
    rw [List.findIdx?_cons]
    cases ho : readOrder o with
    | none => exact ⟨0, rfl, rfl⟩
    | some order =>
      cases hr : readBatch (k + 1) rest with
      | ok batch => rw [hr] at ih; simp [ih]
      | error j =>
        rw [hr] at ih
        obtain ⟨i, found, rfl⟩ := ih
        exact ⟨i + 1, by simp [found], by omega⟩

/-- The data of the refusal of one of the eleven requests (R83, R197). -/
def guardData (s : State) (inRange : Bool) : Request → ReplyData
  | .schedule orders => .scheduleError
      (if inRange ∨ 8 < orders.length then 0 else (orders.findIdx? fun o => (readOrder o).isNone).getD 0)
      (64 - s.agenda.entries.length)
  | _ => .codeOnly

/-- What the eleven requests answer under the guard. -/
def guardAnswer (s : State) (inRange : Bool) (r : Request) : Answer :=
  (s, some { code := if inRange then .held else .badField, data := guardData s inRange r })

section
variable {s : State}

theorem scheduleRequest_guarded (guarded : s.guarded = true) (orders : List RawOrder) :
    scheduleRequest orders s
      = guardAnswer s (1 ≤ orders.length && orders.length ≤ 8 && orders.all fun o => (readOrder o).isSome)
          (.schedule orders) := by
  unfold scheduleRequest
  split
  · next size =>
    have out : (decide (1 ≤ orders.length) && decide (orders.length ≤ 8)) = false := by
      rw [Bool.and_eq_false_iff, decide_eq_false_iff_not, decide_eq_false_iff_not]; omega
    rw [out]
    rcases size with none | many
    · rw [List.length_eq_zero_iff.1 none]; rfl
    · simp [guardAnswer, guardData, many, scheduleRefusal, refuseWith, Agenda.free, Config.agendaCapacity]
  · next size =>
    have within : (decide (1 ≤ orders.length) && decide (orders.length ≤ 8)) = true := by
      rw [Bool.and_eq_true, decide_eq_true_eq, decide_eq_true_eq]; omega
    have few : ¬ 8 < orders.length := by omega
    have batch := readBatch_findIdx? 0 orders
    rw [within, Bool.true_and]
    split
    · next k h =>
      rw [h] at batch
      obtain ⟨i, found, rfl⟩ := batch
      have bad : (orders.all fun o => (readOrder o).isSome) = false := by
        obtain ⟨hi, at_i, -⟩ := List.findIdx?_eq_some_iff_getElem.1 found
        rw [List.all_eq_false]
        exact ⟨_, List.getElem_mem hi, by simpa using at_i⟩
      simp [guardAnswer, guardData, bad, few, found, scheduleRefusal, refuseWith, Agenda.free, Config.agendaCapacity]
    · next h =>
      rw [h] at batch
      have good : (orders.all fun o => (readOrder o).isSome) = true := by
        rw [List.all_eq_true]
        intro o ho
        simpa [Option.isSome_iff_ne_none] using List.findIdx?_eq_none_iff.1 batch o ho
      rw [good]
      rfl

theorem cancelRequest_guarded (guarded : s.guarded = true) (tag : Half) (complete : Byte) :
    cancelRequest tag complete s = guardAnswer s (complete == 0 || complete == 1) (.cancel tag complete) := by
  rw [← readFlag_isSome, cancelRequest]
  cases readFlag complete with
  | none => rfl
  | some c => exact if_pos guarded

theorem cancelLineRequest_guarded (guarded : s.guarded = true) (line : Byte) :
    cancelLineRequest line s = guardAnswer s (decide (line.toNat < 16)) (.cancelLine line) := by
  rw [← readLine_isSome, cancelLineRequest]
  cases readLine line with
  | none => rfl
  | some i => exact if_pos guarded

theorem setLineRequest_guarded (guarded : s.guarded = true) (line mode polarity : Byte) (filter : Half)
    (idle holdAction : Byte) :
    setLineRequest line mode polarity filter idle holdAction s
      = guardAnswer s (decide (line.toNat < 16) && (readMode mode polarity filter idle holdAction).isSome)
          (.setLine line mode polarity filter idle holdAction) := by
  rw [← readLine_isSome, setLineRequest]
  cases readLine line with
  | none => rfl
  | some i =>
    cases readMode mode polarity filter idle holdAction with
    | none => rfl
    | some m => exact if_pos guarded

theorem writeSlotRequest_guarded (guarded : s.guarded = true) (line slot boundary : Byte) (edges : List RawEdge) :
    writeSlotRequest line slot boundary edges s
      = guardAnswer s (decide (line.toNat < 16) && (readSlot slot).isSome && (readPattern boundary edges).isSome)
          (.writeSlot line slot boundary edges) := by
  rw [← readLine_isSome, writeSlotRequest]
  cases readLine line with
  | none => rfl
  | some i =>
    cases readSlot slot with
    | none => rfl
    | some sl =>
      cases readPattern boundary edges with
      | none => rfl
      | some p => exact if_pos guarded

theorem clearPatternRequest_guarded (guarded : s.guarded = true) (line : Byte) :
    clearPatternRequest line s = guardAnswer s (decide (line.toNat < 16)) (.clearPattern line) := by
  rw [← readLine_isSome, clearPatternRequest]
  cases readLine line with
  | none => rfl
  | some i => exact if_pos guarded

theorem setFollowRequest_guarded (guarded : s.guarded = true) (id : Byte) (settings : RawFollow) :
    setFollowRequest id settings s
      = guardAnswer s (decide (id.toNat < 8) && (readFollow settings).isSome) (.setFollow id settings) := by
  rw [← readRuleId_isSome, setFollowRequest]
  cases readRuleId id with
  | none => rfl
  | some k =>
    cases readFollow settings with
    | none => rfl
    | some f => exact if_pos guarded

theorem armFollowRequest_guarded (guarded : s.guarded = true) (id : Byte) :
    armFollowRequest id s = guardAnswer s (decide (id.toNat < 8)) (.armFollow id) := by
  rw [← readRuleId_isSome, armFollowRequest]
  cases readRuleId id with
  | none => rfl
  | some k => exact if_pos guarded

theorem disarmFollowRequest_guarded (guarded : s.guarded = true) (id : Byte) :
    disarmFollowRequest id s = guardAnswer s (decide (id.toNat < 8)) (.disarmFollow id) := by
  rw [← readRuleId_isSome, disarmFollowRequest]
  cases readRuleId id with
  | none => rfl
  | some k => exact if_pos guarded

theorem clearFollowRequest_guarded (guarded : s.guarded = true) (id : Byte) :
    clearFollowRequest id s = guardAnswer s (decide (id.toNat < 8)) (.clearFollow id) := by
  rw [← readRuleId_isSome, clearFollowRequest]
  cases readRuleId id with
  | none => rfl
  | some k => exact if_pos guarded

/-- Under the guard each of the eleven requests is refused, with BAD_FIELD first (R18). -/
theorem runRequest_guarded (guarded : s.guarded = true) (seq : Byte) (check : Half) {r : Request} {inRange : Bool}
    (eleven : guardedInRange r = some inRange) : runRequest seq check r s = guardAnswer s inRange r := by
  cases r with
  | schedule orders => exact Option.some.inj eleven ▸ scheduleRequest_guarded guarded orders
  | cancel tag complete => exact Option.some.inj eleven ▸ cancelRequest_guarded guarded tag complete
  | cancelLine line => exact Option.some.inj eleven ▸ cancelLineRequest_guarded guarded line
  | releaseCaptures upto => exact Option.some.inj eleven ▸ if_pos guarded
  | setLine line mode polarity filter idle holdAction =>
    exact Option.some.inj eleven ▸ setLineRequest_guarded guarded line mode polarity filter idle holdAction
  | writeSlot line slot boundary edges =>
    exact Option.some.inj eleven ▸ writeSlotRequest_guarded guarded line slot boundary edges
  | clearPattern line => exact Option.some.inj eleven ▸ clearPatternRequest_guarded guarded line
  | setFollow id settings => exact Option.some.inj eleven ▸ setFollowRequest_guarded guarded id settings
  | armFollow id => exact Option.some.inj eleven ▸ armFollowRequest_guarded guarded id
  | disarmFollow id => exact Option.some.inj eleven ▸ disarmFollowRequest_guarded guarded id
  | clearFollow id => exact Option.some.inj eleven ▸ clearFollowRequest_guarded guarded id
  | _ => cases eleven

end

/-- Settles O22: each of the eleven answers with the state unchanged. -/
theorem holdGuardRefuses : Obligations.HoldGuardRefuses := by
  intro seq pins r inRange s fits eleven takes guard hold
  have other : r ≠ .readLines := by rintro rfl; cases eleven
  refine ⟨guardData s inRange r, ?_, by cases r <;> rfl⟩
  exact exec_answered pins other fits takes (runRequest_guarded (guarded_of guard hold) _ _ eleven)

/-! ## The resets -/

/-- Every pin is high-impedance while a hardware reset lasts (R38). -/
theorem pinShown_inReset {s : State} (h : s.power.inReset = true) (i : LineId) : s.pinShown i = none := if_pos h

/-- The first sample of HOLD after a reset (R21). -/
theorem firstSample_afterReset {s : State} {cause : RestartCause} {rate : Rate} (power : Power) (asserted : Bool) :
    ({ s.resetBlocks cause with link := .reset rate, power := power } : State).firstSample asserted
      = { afterReset s cause rate asserted with power := power } := by
  cases asserted with
  | false => rfl
  | true =>
    exact (changeReasons_enter (s := { s.resetBlocks cause with link := .reset rate, power := power })
      (r := ⟨true, false⟩) rfl rfl).trans rfl

/-- Settles O15: the three beginnings, and the end with its first sample. -/
theorem hardwareResetBeginsAndEnds : Obligations.HardwareResetBeginsAndEnds := by
  refine ⟨fun s => ?_, fun rate1 rate0 asserted s resets vdd => ?_⟩
  · exact ⟨⟨_, rfl, rfl, rfl, pinShown_inReset rfl, rfl, rfl, rfl, rfl, rfl⟩,
      ⟨_, rfl, rfl, rfl, pinShown_inReset rfl, rfl, rfl, rfl, rfl, rfl⟩,
      ⟨_, rfl, rfl, rfl, pinShown_inReset rfl, rfl, rfl, rfl, rfl, rfl⟩⟩
  · have ends : s.power.mayEnd = true := by simp [Power.mayEnd, resets, vdd]
    change Host.Outcome.next (if s.power.mayEnd = true then _ else s) = _
    rw [if_pos ends, State.endReset]
    refine congrArg Host.Outcome.next ((firstSample_afterReset _ asserted).trans ?_)
    cases rate1 <;> cases rate0 <;> rfl

/-- Settles O54. -/
theorem resetSatisfiesTheInvariant : Obligations.ResetSatisfiesTheInvariant := by
  refine ⟨⟨timebaseOk_reset, by decide, by decide, by decide, by decide, by decide, by decide, by decide, ?_, rfl⟩,
    rfl, rfl, rfl⟩
  rintro d ⟨⟩

end Sys2Proof.Claims
end

section
/-! The classes of times and the conditions of AWAIT; the order of a tick's parts; the clock. -/

namespace Sys2Proof.Machine

/-! ## Time (R3) -/

/-- The distance forward, in numbers. -/
theorem distance_eq (x now : Stamp) : distance x now = (x.toNat + 2 ^ 48 - now.toNat) % 2 ^ 48 := by
  have := now.isLt
  rw [distance, BitVec.toNat_sub]
  congr 1
  omega

theorem classify_future_iff (x now : Stamp) :
    classify x now = .future ↔ 1 ≤ distance x now ∧ distance x now ≤ 2 ^ 40 - 1 := by
  unfold classify
  dsimp only
  split
  · next h => simpa using h
  · next h => split <;> simpa using h

theorem classify_late_iff (x now : Stamp) :
    classify x now = .late ↔ distance x now = 0 ∨ 2 ^ 48 - 2 ^ 40 + 1 ≤ distance x now := by
  unfold classify
  dsimp only
  split
  · next h => simp only [reduceCtorEq, false_iff]; omega
  · split
    · next h => simpa using h
    · next h => simpa using h

theorem classify_beyond_iff (x now : Stamp) :
    classify x now = .beyond ↔ 2 ^ 40 ≤ distance x now ∧ distance x now ≤ 2 ^ 48 - 2 ^ 40 := by
  unfold classify
  dsimp only
  split
  · next h => simp only [reduceCtorEq, false_iff]; omega
  · split
    · next h => simp only [reduceCtorEq, false_iff]; omega
    · next h => simp only [true_iff]; omega

/-! ## The conditions of AWAIT (R184, R185) -/

theorem Agenda.counted_none (a : Agenda) : a.counted none = a.entries.length := rfl

theorem Agenda.counted_some (a : Agenda) (i : LineId) :
    a.counted (some i) = (a.entries.filter fun e => e.line == i).length := rfl

/-- No entry names the line. -/
theorem Agenda.counted_some_eq_zero (a : Agenda) (i : LineId) : a.counted (some i) = 0 ↔ ∀ e ∈ a.entries, e.line ≠ i := by
  simp [Agenda.counted_some]

theorem HoldReasons.code_toNat (r : HoldReasons) :
    r.code.toNat = (if r.pin then 1 else 0) + (if r.link then 2 else 0) := by
  obtain ⟨pin, link⟩ := r
  cases pin <;> cases link <;> rfl

/-- The line of AGENDA_EMPTY: 255 is ALL, then the lines. -/
theorem readCondition_agendaEmpty (argument now : Stamp) :
    readCondition 0 argument now
      = if (argument.setWidth 8).toNat = 255 then some (.agendaEmpty none)
        else if h : (argument.setWidth 8).toNat < 16 then some (.agendaEmpty (some ⟨(argument.setWidth 8).toNat, h⟩))
        else none := by
  change (readAwaitLine (argument.setWidth 8)).map _ = _
  generalize argument.setWidth 8 = b
  have all : b = 0xFF ↔ b.toNat = 255 := ⟨fun h => by rw [h]; rfl, fun h => BitVec.eq_of_toNat_eq h⟩
  simp only [readAwaitLine, all]
  split
  · rfl
  · unfold readLine
    split <;> rfl

theorem readCondition_other {c : Byte} (h : 3 < c.toNat) (argument now : Stamp) : readCondition c argument now = none := by
  unfold readCondition
  split
  · simp at h
  · simp at h
  · simp at h
  · simp at h
  · rfl

end Sys2Proof.Machine

namespace Sys2Proof.Claims

open Sys2Proof.Machine Sys2Proof.Safety

/-- Settles O12: the three classes, the values tested, the conditions and their arguments. -/
theorem awaitConditions : Obligations.AwaitConditions := by
  refine ⟨fun x now => ?_, fun s => ?_, fun s => ?_⟩
  · dsimp only
    rw [← distance_eq]
    exact ⟨rfl, classify_future_iff x now, classify_late_iff x now, classify_beyond_iff x now⟩
  · exact ⟨rfl, fun _ => rfl, fun _ => rfl, fun _ => rfl, HoldReasons.code_toNat _⟩
  · refine ⟨?_, fun i => ?_, fun n => decide_eq_true_iff, fun x => beq_iff_eq, isEmpty_iff _, readCondition_agendaEmpty,
      fun _ _ => rfl, fun _ _ => rfl, fun _ _ => rfl, fun c argument now h => readCondition_other h argument now⟩
    · simp [AwaitCondition.holds, Agenda.counted_none]
    · rw [← Agenda.counted_some_eq_zero]
      exact beq_iff_eq

/-! ## Steps on an empty queue -/

/-- Steps that pass through a sequence of states. -/
theorem steps_sequence (f : Nat → State) {n : Nat} (h : ∀ k < n, step (f k) = .next (f (k + 1))) :
    ∀ k ≤ n, Claims.steps k (f 0) = .next (f k) := by
  have from_j : ∀ k j, j + k ≤ n → Claims.steps k (f j) = .next (f (j + k)) := by
    intro k
    induction k with
    | zero => intro j _; rfl
    | succ k ih =>
      intro j hj
      rw [Claims.steps, h j (by omega)]
      simpa only [Nat.add_right_comm, Nat.add_assoc] using ih (j + 1) (by omega)
  intro k hk
  simpa using from_j k 0 (by omega)

/-- One step more. -/
theorem steps_succ {n : Nat} {s t u : State} (h : Claims.steps n s = .next t) (last : step t = .next u) :
    Claims.steps (n + 1) s = .next u := by
  induction n generalizing s with
  | zero =>
    obtain rfl := Host.Outcome.next.inj h
    rw [Claims.steps, last]
    rfl
  | succ n ih =>
    rw [Claims.steps] at h ⊢
    cases first : step s with
    | next v => rw [first] at h; exact ih h
    | fault r => rw [first] at h; cases h
    | refused r => rw [first] at h; cases h

section
variable {s : State} (alive : s.power.inReset = false) (empty : s.pending = []) (busy : s.link.tx ≠ .idle)
include alive empty busy

/-- With a frame in transmission a step on an empty queue is the clock's. -/
theorem step_clock : step s = .next s.clock := by
  have sends : s.mayTransmit = false := by simp [State.mayTransmit, busy]
  rw [step, empty]
  simp [State.idle, alive, sends]

theorem step_period (early : s.tickDue = false) (waits : s.timeoutDue = false) (still : s.repeatDue = false) :
    step s = .next s.period := by
  rw [step_clock alive empty busy]
  simp [State.clock, State.clockEvents, early, waits, still]

theorem step_tick (due : s.tickDue = true) (waits : s.timeoutDue = false) (still : s.repeatDue = false) :
    step s = .next (s.runTick s.inputs) := by
  have tx : (s.runTick s.inputs).link.tx = s.link.tx := by
    obtain ⟨u, before, after⟩ := s.runTick_updates s.inputs
    rw [after.link, State.sampleAll_link, before.link]
    rfl
  rw [step_clock alive empty busy]
  simp [State.clock, State.clockEvents, due, waits, still, State.takeClockEvent, State.transmit_busy (tx ▸ busy)]

theorem step_awaitExpiry (early : s.tickDue = false) (due : s.timeoutDue = true) (still : s.repeatDue = false) :
    step s = .next s.awaitExpiry := by
  have tx : s.awaitExpiry.link.tx = s.link.tx := by
    unfold State.awaitExpiry
    split <;> rfl
  rw [step_clock alive empty busy]
  simp [State.clock, State.clockEvents, early, due, still, State.takeClockEvent, State.transmit_busy (tx ▸ busy)]

theorem step_repeatExpiry (early : s.tickDue = false) (waits : s.timeoutDue = false) (due : s.repeatDue = true) :
    step s = .next s.repeatExpiry := by
  rw [step_clock alive empty busy]
  simp [State.clock, State.clockEvents, early, waits, due, State.takeClockEvent,
    State.transmit_busy (s := s.repeatExpiry) busy]

end

/-- A deferred request that has been answered counts no periods and does not expire (R187). -/
theorem timer_of_awaiting_none {s : State} (h : s.link.awaiting = none) :
    s.timeoutDue = false ∧ s.link.countPeriod = s.link := by
  cases hd : s.link.deferred with
  | none =>
    have same : ({ s.link with deferred := none } : Link) = s.link := by rw [← hd]
    exact ⟨by simp [State.timeoutDue, hd], by simpa [Link.countPeriod, hd] using same⟩
  | some d =>
    have stopped : d.timer = none := by simpa [Link.awaiting, hd] using h
    refine ⟨by simp [State.timeoutDue, hd, Deferred.expired, stopped], ?_⟩
    have same : ({ d with timer := none } : Deferred) = d := by rw [← stopped]
    have kept : ({ s.link with deferred := some d } : Link) = s.link := by rw [← hd]
    simpa [Link.countPeriod, hd, stopped, same] using kept

/-- `s` with `k` periods of the tick counted. -/
def countedTick (s : State) (k : Nat) : State := { s with timebase := { s.timebase with count := k } }

/-- `s` with `k` periods of the await timer counted. -/
def countedAwait (s : State) (d : Deferred) (k : Nat) : State :=
  { s with link := { s.link with deferred := some { d with timer := some k } } }

/-- `s` with `k` periods of the repeat timer counted. -/
def countedRepeat (s : State) (k : Nat) : State := { s with notices := { s.notices with timer := some k } }

/-- Settles O53: each clock counts its periods one step at a time, and the event that is due takes one more. -/
theorem clockCountsPeriods : Obligations.ClockCountsPeriods := by
  refine ⟨fun s alive empty busy running zero quiet waits => ?_, fun s alive empty busy stopped => ⟨?_, ?_⟩⟩
  · have start : countedTick s 0 = s := by rw [countedTick, ← zero]
    have sameNotices : { s.notices with timer := none } = s.notices := by rw [← quiet]
    have waits' := timer_of_awaiting_none waits
    have still (k : Nat) : (countedTick s k).repeatDue = false := by simp [State.repeatDue, countedTick, quiet]
    have one (k : Nat) (hk : k < 2 ^ s.timebase.prescale) : step (countedTick s k) = .next (countedTick s (k + 1)) := by
      rw [step_period (s := countedTick s k) alive empty busy ?_ waits'.1 (still k)]
      · simp [State.period, countedTick, State.isRunning, running, waits'.2, quiet, sameNotices]
      · simp [State.tickDue, countedTick, State.isRunning, running, hk]
    have count := steps_sequence _ one
    rw [start] at count
    refine ⟨count, steps_succ (count _ (Nat.le_refl _)) ?_⟩
    exact step_tick (s := countedTick s _) alive empty busy
      (by simp [State.tickDue, countedTick, State.isRunning, running]) waits'.1 (still _)
  · intro d quiet hd ht
    have start : countedAwait s d 0 = s := by rw [countedAwait, ← ht, ← hd]
    have sameNotices : { s.notices with timer := none } = s.notices := by rw [← quiet]
    have sameTimebase : { s.timebase with state := .stopped } = s.timebase := by rw [← stopped]
    have early (k : Nat) : (countedAwait s d k).tickDue = false := by
      simp [State.tickDue, countedAwait, State.isRunning, stopped]
    have still (k : Nat) : (countedAwait s d k).repeatDue = false := by simp [State.repeatDue, countedAwait, quiet]
    have one (k : Nat) (hk : k < d.timeoutMs * 25000) :
        step (countedAwait s d k) = .next (countedAwait s d (k + 1)) := by
      rw [step_period (s := countedAwait s d k) alive empty busy (early k) ?_ (still k)]
      · simp [State.period, countedAwait, State.isRunning, stopped, Link.countPeriod, quiet, sameNotices, sameTimebase]
      · simp [State.timeoutDue, countedAwait, Deferred.expired, Config.periodsPerMs, Nat.not_le.2 hk]
    have count := steps_sequence _ one
    rw [start] at count
    refine steps_succ (count _ (Nat.le_refl _)) ((step_awaitExpiry (s := countedAwait s d _) alive empty busy (early _) ?_
      (still _)).trans rfl)
    simp [State.timeoutDue, countedAwait, Deferred.expired, Config.periodsPerMs]
  · intro waits ht
    have start : countedRepeat s 0 = s := by rw [countedRepeat, ← ht]
    have sameTimebase : { s.timebase with state := .stopped } = s.timebase := by rw [← stopped]
    have waits' := timer_of_awaiting_none waits
    have early (k : Nat) : (countedRepeat s k).tickDue = false := by
      simp [State.tickDue, countedRepeat, State.isRunning, stopped]
    have one (k : Nat) (hk : k < s.notices.interval.toNat * 250000) :
        step (countedRepeat s k) = .next (countedRepeat s (k + 1)) := by
      rw [step_period (s := countedRepeat s k) alive empty busy (early k) waits'.1 ?_]
      · simp [State.period, countedRepeat, State.isRunning, stopped, waits'.2, sameTimebase]
      · simp [State.repeatDue, countedRepeat, Config.periodsPerRepeatUnit, Nat.not_le.2 hk]
    have count := steps_sequence _ one
    rw [start] at count
    refine steps_succ (count _ (Nat.le_refl _)) ((step_repeatExpiry (s := countedRepeat s _) alive empty busy (early _)
      waits'.1 ?_).trans rfl)
    simp [State.repeatDue, countedRepeat, Config.periodsPerRepeatUnit]

end Sys2Proof.Claims
end

section
/-! The tick, part by part. -/

namespace Sys2Proof.Claims

open Sys2Proof.Machine Sys2Proof.Safety

/-- A line out of DRIVE takes neither step (R35). -/
theorem patternStep_eq (boundary taken : Bool) (s : State) (i : LineId) :
    s.patternStep boundary taken i
      = if (s.line i).isDrive then (if boundary then s.boundaryStep taken i else s).patternEdge i else s := by
  split
  · rfl
  · next h =>
    have still : s.boundaryStep taken i = s := if_neg h
    rw [State.patternStep, still, ite_self]
    exact if_neg h

/-- The counts of a tick as the statements give them (R2). -/
theorem advance_eq_ticked (t : Timebase) : t.advance = ticked t := by
  unfold Timebase.advance Timebase.atBoundary ticked
  simp only [decide_eq_true_eq]
  cases t.staged <;> rfl

theorem runTick_eq (s : State) (pins : Half) : s.runTick pins = (untilExpiries s pins).qualify := by
  unfold State.runTick untilExpiries State.countTick
  rw [advance_eq_ticked]
  rfl

theorem ticked_time (t : Timebase) : (ticked t).time = t.time + 1 := by
  unfold ticked
  split <;> rfl

/-- The qualifiers after a tick: one sample of each capture line, at the new T (R40). -/
theorem runTick_qualifiers (s : State) (pins : Half) (i : LineId) :
    (s.runTick pins).qualifiers.get i = (sampled s i (s.timebase.time + 1) pins).1 := by
  obtain ⟨u, before, after⟩ := s.runTick_updates pins
  have mode : (u.line i).mode = (s.line i).mode := before.mode i
  rw [after.qualifiers]
  simp only [State.sampleAll, Bank.get_mapEach, State.sampleAt, sampleLine, sampled, mode, before.qualifiers,
    before.timebase, before.inputs, State.countTick_timebase, State.countTick_inputs, State.countTick_qualifiers,
    advance_eq_ticked, ticked_time]
  cases (s.line i).mode <;> rfl

theorem exec_tick {s : State} (pins : Half) (alive : s.power.inReset = false) (running : s.timebase.state = .running) :
    exec (.tick pins) s = .next (s.runTick pins).transmit :=
  eventIf_next State.isRunning _ s alive (by simp [State.isRunning, running])

theorem exec_cycleBoundary {s : State} (pins : Half) (alive : s.power.inReset = false)
    (running : s.timebase.state = .running) (boundary : s.timebase.length ≤ s.timebase.offset + 1) :
    exec (.cycleBoundary pins) s = .next (s.runTick pins).transmit :=
  eventIf_next (fun s => s.isRunning && s.timebase.atBoundary) _ s alive
    (by simp [State.isRunning, running, Timebase.atBoundary, boundary])

/-- The timebase after the tick at a cycle boundary (R2, R10). -/
theorem ticked_boundary {t : Timebase} (h : t.length ≤ t.offset + 1) :
    ticked t = { t with
      time := t.time + 1, offset := 0, cycle := t.cycle + 1, count := 0, length := t.staged.getD t.length
      staged := none } := by
  refine (if_pos h).trans ?_
  cases t.staged <;> rfl

/-- Settles O23: the order of the parts is the definition's; each part's frame gives what the tick keeps. -/
theorem tickTakesItsPartsInOrder : Obligations.TickTakesItsPartsInOrder := by
  refine ⟨fun s boundary taken => ?_, fun pins s alive running => ⟨?_, fun boundary => ?_⟩⟩
  · exact congrFun (congrFun (congrArg List.foldl (funext₂ (patternStep_eq boundary taken))) s) lineIds
  · refine ⟨_, exec_tick pins alive running, by rw [runTick_eq], ?_, ?_, ?_, ?_, fun i => ?_⟩
    · rw [State.transmit_timebase, State.runTick_timebase, advance_eq_ticked]
    · rw [State.transmit_inputs, State.runTick_inputs]
    · rw [State.transmit_power, State.runTick_power]
    · rw [State.transmit_freeCount, State.runTick_freeCount]
    · rw [State.transmit_qualifiers, runTick_qualifiers]
  · refine ⟨_, exec_cycleBoundary pins alive running boundary, by rw [runTick_eq], ?_⟩
    rw [State.transmit_timebase, State.runTick_timebase, advance_eq_ticked, ticked_boundary boundary]
    exact ⟨rfl, rfl, rfl, rfl, rfl⟩

end Sys2Proof.Claims
end

section
/-! The lines' invariant, kept by every step (R22, R29, R31, R34, R105, R106). -/

namespace Sys2Proof.Machine

open Sys2Proof.Safety

/-! ## One line -/

section
variable {hold : Bool} {l : Line}

theorem lineOk_drive (hd : l.isDrive = true) (f : filterOk l.mode = true) (h : DriveOk hold l) : LineOk hold l :=
  ⟨f, by rw [if_pos hd]; exact h⟩

theorem driveOk_of_lineOk (h : LineOk hold l) (hd : l.isDrive = true) : DriveOk hold l := by
  simpa only [hd, if_true] using h.2

theorem lineIdle_of_lineOk (h : LineOk hold l) (hd : l.isDrive = false) : LineIdle l := by
  simpa only [hd, Bool.false_eq_true, if_false] using h.2

/-- The filter of a drive line is none. -/
theorem filterOk_of_isDrive (h : l.isDrive = true) : filterOk l.mode = true := by
  cases hm : l.mode <;> simp_all [filterOk, Line.isDrive, LineMode.isDrive]

/-- A line out of DRIVE has no level to act on. -/
theorem act_idle (h : LineIdle l) (a : LevelAction) : l.act a = l := by
  obtain ⟨level, saved, -, -, -, -, -⟩ := h
  have same : ({ l with level := none } : Line) = l := by rw [← level]
  unfold Line.act
  split
  · next h => simp [saved] at h
  · rw [level]
    exact same

theorem lineOk_act (h : LineOk hold l) (a : LevelAction) : LineOk hold (l.act a) := by
  cases hd : l.isDrive with
  | false => rwa [act_idle (lineIdle_of_lineOk h hd)]
  | true =>
    obtain ⟨⟨level, saved, frozen⟩, slotA, slotB, active, takeover⟩ := driveOk_of_lineOk h hd
    have kept := Line.act_isSome a l
    refine lineOk_drive (by rw [Line.act_isDrive, hd]) (by rw [Line.act_mode]; exact h.1)
      ⟨⟨kept.1.trans level, kept.2.trans saved, by rwa [Line.act_frozen]⟩, by rwa [Line.act_slotA],
        by rwa [Line.act_slotB], ?_, ?_⟩
    · simpa only [ActiveOk, Line.slot, Line.act_active, Line.act_slotA, Line.act_slotB] using active
    · simpa only [TakeoverOk, Line.slot, Line.act_active, Line.act_takeover, Line.act_slotA, Line.act_slotB] using takeover

/-- A pending takeover becomes the active slot (R112). -/
theorem lineOk_take (h : LineOk hold l) {slot : SlotSel} (pending : l.takeover = some slot) :
    LineOk hold { l with active := slot, takeover := none } := by
  cases hd : l.isDrive with
  | false => simp [(lineIdle_of_lineOk h hd).2.2.2.2.2.2] at pending
  | true =>
    obtain ⟨levels, slotA, slotB, -, takeover⟩ := driveOk_of_lineOk h hd
    exact lineOk_drive hd h.1 ⟨levels, slotA, slotB, (takeover slot pending).imp id And.right, by simp [TakeoverOk]⟩

/-- R31. -/
theorem lineOk_enterHold (h : LineOk false l) : LineOk true l.enterHold := by
  unfold Line.enterHold
  split
  · next hd =>
    obtain ⟨⟨level, -, -⟩, slotA, slotB, active, takeover⟩ := driveOk_of_lineOk h hd
    exact lineOk_drive hd h.1 ⟨⟨rfl, level, level⟩, slotA, slotB, active, takeover⟩
  · next hd =>
    have idle := lineIdle_of_lineOk h (by simpa using hd)
    exact ⟨h.1, by rw [if_neg hd]; exact idle⟩

/-- R34. -/
theorem lineOk_leaveHold (h : LineOk true l) : LineOk false l.leaveHold := by
  unfold Line.leaveHold
  split
  · next hd =>
    obtain ⟨⟨-, saved, -⟩, slotA, slotB, active, takeover⟩ := driveOk_of_lineOk h hd
    exact lineOk_drive hd h.1 ⟨⟨saved, rfl, rfl⟩, slotA, slotB, active, takeover⟩
  · next hd =>
    have idle := lineIdle_of_lineOk h (by simpa using hd)
    exact ⟨h.1, by rw [if_neg hd]; exact idle⟩

/-- R29's table. -/
theorem lineOk_freshLine {m : LineMode} (f : filterOk m = true) : LineOk hold (freshLine m hold) := by
  cases m with
  | off => exact ⟨rfl, by simp [freshLine, Line.isDrive, LineMode.isDrive, LineIdle, Line.reset]⟩
  | capture p filter => exact ⟨f, by simp [freshLine, Line.isDrive, LineMode.isDrive, LineIdle, Line.reset]⟩
  | drive idle act =>
    cases hold <;> exact lineOk_drive rfl rfl
      ⟨⟨rfl, rfl, rfl⟩, by rintro _ ⟨⟩, by rintro _ ⟨⟩, .inl rfl, by rintro _ ⟨⟩⟩

/-- A slot that is not active is filled and waits to be taken over (R109). -/
theorem lineOk_write (h : LineOk hold l) (hd : l.isDrive = true) {sl : SlotSel} (named : sl ≠ .noSlot)
    (inactive : l.active ≠ sl) {p : Pattern} (pattern : PatternOk p) : LineOk hold (l.write sl p) := by
  obtain ⟨levels, slotA, slotB, active, -⟩ := driveOk_of_lineOk h hd
  have written : ∀ q ∈ some p, PatternOk q := by rintro q ⟨⟩; exact pattern
  cases sl with
  | noSlot => exact absurd rfl named
  | slotA =>
    refine lineOk_drive hd h.1 ⟨levels, written, slotB, ?_, ?_⟩
    · cases ha : l.active <;> simp_all [ActiveOk, Line.write, Line.slot]
    · rintro t ⟨⟩
      exact Or.inr ⟨inactive.symm, rfl⟩
  | slotB =>
    refine lineOk_drive hd h.1 ⟨levels, slotA, written, ?_, ?_⟩
    · cases ha : l.active <;> simp_all [ActiveOk, Line.write, Line.slot]
    · rintro t ⟨⟩
      exact Or.inr ⟨inactive.symm, rfl⟩

/-- NONE waits to be taken over (R110). -/
theorem lineOk_clearPattern (h : LineOk hold l) (hd : l.isDrive = true) :
    LineOk hold { l with takeover := some .noSlot } := by
  obtain ⟨levels, slotA, slotB, active, -⟩ := driveOk_of_lineOk h hd
  refine lineOk_drive hd h.1 ⟨levels, slotA, slotB, active, ?_⟩
  rintro t ⟨⟩
  exact Or.inl rfl

end

/-! ## Every line -/

section
variable {s t : State}

/-- The invariant reads the lines and the hold reasons alone. -/
theorem linesOk_of_same (h : LinesOk s) (lines : t.lines = s.lines) (reasons : t.timebase.reasons = s.timebase.reasons) :
    LinesOk t := by
  intro i
  rw [State.inHold, reasons, State.line, lines]
  exact h i

theorem linesOk_setLine (h : LinesOk s) {i : LineId} {l : Line} (hl : LineOk s.inHold l) : LinesOk (s.setLine i l) := by
  intro j
  change LineOk s.inHold _
  rw [State.line_setLine]
  split
  · exact hl
  · exact h j

theorem linesOk_update (h : LinesOk s) (u : Update s t) : LinesOk t := by
  cases u with
  | act i a => exact linesOk_setLine h (lineOk_act (h i) a)
  | take i slot pending => exact linesOk_setLine h (lineOk_take (h i) pending)
  | await ev => exact linesOk_of_same h (State.awaitTest_lines _ _) (by rw [State.awaitTest_timebase])
  | raise | agenda | rule | queue => exact linesOk_of_same h rfl rfl

theorem linesOk_updates (h : LinesOk s) (u : Updates s t) : LinesOk t := u.keep linesOk_update h

theorem inHold_eq_false (s : State) : s.inHold = false ↔ s.timebase.reasons.isEmpty = true := by simp [State.inHold]

/-- The lines when hold is entered. -/
theorem State.enterHold_lines (s : State) (r : HoldReasons) : (s.enterHold r).lines = s.lines.map Line.enterHold := by
  unfold State.enterHold
  dsimp only
  split <;> rfl

/-- The lines when hold is left. -/
theorem State.leaveHold_lines (s : State) : s.leaveHold.lines = s.lines.map Line.leaveHold := by
  unfold State.leaveHold
  rw [State.awaitTest_lines]
  dsimp only
  split <;> rfl

theorem linesOk_changeReasons (h : LinesOk s) (r : HoldReasons) : LinesOk (s.changeReasons r) := by
  rcases s.changeReasons_cases r with ⟨empty, hr, e⟩ | ⟨full, e⟩ | e | ⟨full, hr, e⟩ <;> rw [e] <;> intro i
  · have before : s.inHold = false := by simp [State.inHold, empty]
    have after : (s.enterHold r).inHold = true := by rw [State.inHold, State.enterHold_timebase, hr]; rfl
    have hi := h i
    rw [before] at hi
    rw [after, State.line, State.enterHold_lines, Bank.get_map]
    exact lineOk_enterHold hi
  · have before : s.inHold = true := by simp [State.inHold, full]
    have after : s.leaveHold.inHold = false := by rw [State.inHold, State.leaveHold_timebase]; rfl
    have hi := h i
    rw [before] at hi
    rw [after, State.line, State.leaveHold_lines, Bank.get_map]
    exact lineOk_leaveHold hi
  · exact h i
  · have same : ({ s with timebase := { s.timebase with reasons := r } } : State).inHold = s.inHold := by
      simp [State.inHold, full, hr]
    rw [same]
    exact h i

theorem linesOk_reconfigure (h : LinesOk s) (i : LineId) {m : LineMode} (f : filterOk m = true) :
    LinesOk (s.reconfigure i m) :=
  linesOk_setLine (linesOk_of_same h (s.removeLineEntries_lines i) (congrArg _ (s.removeLineEntries_timebase i)))
    (lineOk_freshLine f)

theorem State.enterStarted_reasons (s : State) : s.enterStarted.timebase.reasons = s.timebase.reasons := by
  unfold State.enterStarted
  split <;> rfl

theorem State.stopTime_reasons (s : State) : s.stopTime.timebase.reasons = s.timebase.reasons := by
  unfold State.stopTime
  split <;> rfl

theorem State.setTimebase_reasons (s : State) (p n : Nat) (g : Bool) :
    (s.setTimebase p n g).timebase.reasons = s.timebase.reasons := by
  unfold State.setTimebase State.lengthAtOnce
  dsimp only
  split
  · split
    · rfl
    · rw [(Updates.foldl State.clipNotice_updates _ _).timebase]; rfl
  · rfl

theorem linesOk_effect (h : LinesOk s) (e : Effect s t) : LinesOk t := by
  cases e with
  | unchanged => exact h
  | start => exact linesOk_of_same h (State.enterStarted_lines _) (State.enterStarted_reasons _)
  | startZero =>
    refine linesOk_of_same h ?_ ((State.enterStarted_reasons _).trans ?_)
    · rw [State.enterStarted_lines, State.zeroTime_lines]
    · rw [State.zeroTime, State.awaitTest_timebase]; rfl
  | stop => exact linesOk_of_same h (State.stopTime_lines _) (State.stopTime_reasons _)
  | setTimebase => exact linesOk_of_same h (State.setTimebase_lines _ _ _ _) (State.setTimebase_reasons _ _ _ _)
  | reasons r => exact linesOk_changeReasons h r
  | reconfigure i m filter => exact linesOk_reconfigure h i filter
  | writeSlot i sl p drive named inactive pattern =>
    exact linesOk_setLine h (lineOk_write (h i) drive named inactive pattern)
  | clearPattern i drive => exact linesOk_setLine h (lineOk_clearPattern (h i) drive)
  | release p => exact linesOk_updates h (s.releaseThrough_updates p)
  | schedule batch => exact linesOk_updates h (.foldl State.carryOut_updates batch s)
  | cancel e complete => exact linesOk_updates h (s.cancelEntry_updates e complete)
  | cancelLine i => exact linesOk_updates h (s.removeLineEntries_updates i)
  | clearRule k => exact linesOk_updates h (s.clearRule_updates k)
  | present | clearCounters | read | watermark | rule | acknowledge | configure => exact linesOk_of_same h rfl rfl

/-- The tick's counts change no hold reason. -/
theorem Timebase.advance_reasons (t : Timebase) : t.advance.reasons = t.reasons := by
  unfold Timebase.advance
  split <;> rfl

theorem linesOk_runTick (h : LinesOk s) (pins : Half) : LinesOk (s.runTick pins) := by
  obtain ⟨u, before, after⟩ := s.runTick_updates pins
  have counted : LinesOk (s.countTick pins) := linesOk_of_same h rfl (Timebase.advance_reasons _)
  have sampled : LinesOk u.sampleAll := linesOk_of_same (linesOk_updates counted before) rfl rfl
  exact linesOk_updates sampled after

theorem linesOk_move (h : LinesOk s) (m : Move s t) : LinesOk t := by
  cases m with
  | effect e => exact linesOk_effect h e
  | tick pins => exact linesOk_runTick h pins
  | transmit => exact linesOk_of_same h (State.transmit_lines _) (by rw [State.transmit_timebase])
  | noticeSent => exact linesOk_of_same h (State.noticeSent_lines _) (by rw [State.noticeSent_timebase])
  | awaitExpiry => exact linesOk_of_same h (State.awaitExpiry_lines _) (by rw [State.awaitExpiry_timebase])
  | outside | receiver | counters | store | reply | record | restart | defer | replyDone | deferredDone | endFrame
    | repeatExpiry | period => exact linesOk_of_same h rfl rfl

theorem linesOk_atReset (r : AtReset s) : LinesOk s := by
  intro i
  rw [State.inHold, r.timebase, State.line, r.lines, Bank.get_replicate]
  decide

/-- Every step keeps each line's levels, slots and takeover as its mode and the hold reasons ask. -/
theorem step_keeps_linesOk (hs : LinesOk s) (h : step s = .next t) : LinesOk t :=
  step_keeps linesOk_move linesOk_atReset hs h

end

end Sys2Proof.Machine
end

section
/-! The capture qualifiers' invariant, kept by every step (R39 to R45, R49, R50). -/

namespace Sys2Proof.Machine

open Sys2Proof.Safety

/-! ## One qualifier -/

theorem candidateOk_waiting {l : Line} {q : Qualifier} (h : q.state = .waiting) : candidateOk l q = true := by
  unfold candidateOk
  rw [h]

theorem sampleOk_none {l : Line} {q : Qualifier} (h : q.last = none) : sampleOk l q = true := by
  unfold sampleOk
  rw [h]
  cases l.mode <;> rfl

/-- The invariant reads the mode of the line alone. -/
theorem candidateOk_congr {l m : Line} (h : m.mode = l.mode) (q : Qualifier) : candidateOk m q = candidateOk l q := by
  unfold candidateOk
  rw [h]

theorem sampleOk_congr {l m : Line} (h : m.mode = l.mode) (q : Qualifier) : sampleOk m q = sampleOk l q := by
  unfold sampleOk
  rw [h]

theorem edgeOf_level {last level : Level} {e : Edge} (h : edgeOf last level = some e) : Edge.level e = level := by
  cases last <;> cases level <;> cases h <;> rfl

theorem edgeOf_none {last level : Level} (h : edgeOf last level = none) : last = level := by
  cases last <;> cases level <;> simp_all [edgeOf]

/-- What a qualifier in CAPTURE holds (R39, R42 to R44). -/
theorem candidateOk_capture {l : Line} {q : Qualifier} {polarity : CapturePolarity} {filter : Nat}
    (hm : l.mode = .capture polarity filter) :
    candidateOk l q = true ↔ ∀ p stamp r, q.state = .qualifying p stamp r →
      polarity.accepts p = true ∧ (1 ≤ r ∧ r ≤ filter) ∧ q.last = some (Edge.level p) := by
  unfold candidateOk
  rw [hm]
  cases hq : q.state with
  | waiting => simp
  | qualifying p stamp r =>
    simp only [Bool.and_eq_true, decide_eq_true_eq, beq_iff_eq, and_assoc, QualState.qualifying.injEq, and_imp]
    exact ⟨by rintro h _ _ _ rfl rfl rfl; exact h, fun h => h p stamp r rfl rfl rfl⟩

/-- One sample keeps a capture line's candidate well formed (R43 to R45). -/
theorem candidateOk_sample {l : Line} {q : Qualifier} {polarity : CapturePolarity} {filter : Nat}
    (hm : l.mode = .capture polarity filter) (h : candidateOk l q = true) (now : Stamp) (level : Level) :
    candidateOk l (q.sample polarity filter now level).1 = true := by
  rw [candidateOk_capture hm] at h ⊢
  intro p stamp r hq
  unfold Qualifier.sample at hq ⊢
  cases hl : q.last with
  | none =>
    simp only [hl] at hq
    simp [hl] at h
    exact absurd hq (h p stamp r)
  | some last =>
    simp only [hl] at hq ⊢
    cases he : edgeOf last level with
    | some e =>
      simp only [he, takeEdge] at hq
      split at hq
      · next accepts =>
        split at hq
        · cases hq
        · next hf =>
          cases hq
          exact ⟨accepts, ⟨Nat.pos_of_ne_zero hf, Nat.le_refl _⟩, by rw [edgeOf_level he]⟩
      · cases hq
    | none =>
      simp only [he, holdLevel] at hq
      split at hq
      · cases hq
      · next p' stamp' r' hstate =>
        obtain ⟨accepts, range, value⟩ := h _ _ _ hstate
        split at hq
        · cases hq
        · next hr =>
          cases hq
          rw [hl, Option.some.injEq] at value
          exact ⟨accepts, ⟨by omega, by omega⟩, by rw [← value, edgeOf_none he]⟩

/-- A line's qualifier after a tick (R40). -/
theorem qualifier_sampleLine {l : Line} {q : Qualifier} (hc : candidateOk l q = true) (hs : sampleOk l q = true)
    (now : Stamp) (level : Level) :
    candidateOk l (sampleLine l q now level).1 = true ∧ sampleOk l (sampleLine l q now level).1 = true := by
  unfold sampleLine
  split
  · next hm => exact ⟨candidateOk_sample hm hc now level, by simp [sampleOk, hm]⟩
  · exact ⟨hc, hs⟩
  · exact ⟨hc, hs⟩

/-! ## Every qualifier -/

section
variable {s t : State}

/-- The invariant reads the qualifiers, the modes of the lines, and whether the state is RUNNING. -/
theorem qualifiersOk_of_same (h : QualifiersOk s) (same : t.qualifiers = s.qualifiers)
    (mode : ∀ i, (t.line i).mode = (s.line i).mode)
    (state : t.timebase.state ≠ .running → s.timebase.state ≠ .running) : QualifiersOk t := by
  intro i
  obtain ⟨candidate, sample, waits⟩ := h i
  rw [QualifierOk, same, candidateOk_congr (mode i), sampleOk_congr (mode i)]
  exact ⟨candidate, sample, fun ht => waits (state ht)⟩

/-- A step that writes neither the lines, the qualifiers nor the timebase's state. -/
theorem qualifiersOk_of_blocks (h : QualifiersOk s) (same : t.qualifiers = s.qualifiers) (lines : t.lines = s.lines)
    (state : t.timebase.state = s.timebase.state) : QualifiersOk t :=
  qualifiersOk_of_same h same (fun i => by rw [State.line, lines]; rfl) (fun ht => state ▸ ht)

theorem qualifiersOk_updates (h : QualifiersOk s) (u : Updates s t) : QualifiersOk t :=
  qualifiersOk_of_same h u.qualifiers u.mode fun ht => by rwa [u.timebase] at ht

/-- RUNNING is left with every candidate abandoned (R49). -/
theorem qualifiersOk_abandoned (h : QualifiersOk s)
    (same : t.qualifiers = s.qualifiers.map fun q => { q with state := .waiting })
    (mode : ∀ i, (t.line i).mode = (s.line i).mode) : QualifiersOk t := by
  intro i
  obtain ⟨-, sample, -⟩ := h i
  rw [QualifierOk, same, Bank.get_map]
  refine ⟨candidateOk_waiting rfl, ?_, fun _ => rfl⟩
  rw [← sampleOk_congr (mode i)] at sample
  exact sample

/-- RUNNING is entered, from a state in which no candidate stands, with the last samples forgotten (R49). -/
theorem qualifiersOk_forgotten (h : QualifiersOk s) (halted : s.timebase.state ≠ .running)
    (same : t.qualifiers = s.qualifiers.map fun q => { q with last := none }) : QualifiersOk t := by
  intro i
  obtain ⟨-, -, waits⟩ := h i
  rw [QualifierOk, same, Bank.get_map]
  exact ⟨candidateOk_waiting (waits halted), sampleOk_none rfl, fun _ => waits halted⟩

theorem qualifiersOk_enterStarted (h : QualifiersOk s) (stopped : s.timebase.state = .stopped) :
    QualifiersOk s.enterStarted := by
  have halted : s.timebase.state ≠ .running := by simp [stopped]
  unfold State.enterStarted
  split
  · exact qualifiersOk_forgotten h halted rfl
  · exact qualifiersOk_of_same h rfl (fun _ => rfl) fun _ => halted

theorem qualifiersOk_stopTime (h : QualifiersOk s) : QualifiersOk s.stopTime := by
  unfold State.stopTime
  split
  · exact h
  · exact qualifiersOk_abandoned h rfl fun _ => rfl
  · next held => exact qualifiersOk_of_same h rfl (fun _ => rfl) fun _ => by simp [held]

theorem State.setTimebase_state (s : State) (p n : Nat) (g : Bool) :
    (s.setTimebase p n g).timebase.state = s.timebase.state := by
  unfold State.setTimebase State.lengthAtOnce
  dsimp only
  split
  · split
    · rfl
    · rw [(Updates.foldl State.clipNotice_updates _ _).timebase]; rfl
  · rfl

theorem Line.enterHold_mode (l : Line) : l.enterHold.mode = l.mode := by
  unfold Line.enterHold
  split <;> rfl

theorem Line.leaveHold_mode (l : Line) : l.leaveHold.mode = l.mode := by
  unfold Line.leaveHold
  split <;> rfl

theorem State.enterHold_qualifiers (s : State) (r : HoldReasons) :
    (s.enterHold r).qualifiers = if s.timebase.state = .running then s.qualifiers.map fun q => { q with state := .waiting }
      else s.qualifiers := by
  unfold State.enterHold
  dsimp only
  split <;> rfl

theorem State.leaveHold_qualifiers (s : State) :
    s.leaveHold.qualifiers = if s.timebase.state = .held then s.qualifiers.map fun q => { q with last := none }
      else s.qualifiers := by
  unfold State.leaveHold
  rw [State.awaitTest_qualifiers]
  dsimp only
  split <;> rfl

theorem State.enterHold_mode (s : State) (r : HoldReasons) (i : LineId) :
    ((s.enterHold r).line i).mode = (s.line i).mode := by
  rw [State.line, State.enterHold_lines, Bank.get_map, Line.enterHold_mode]
  rfl

theorem State.leaveHold_mode (s : State) (i : LineId) : (s.leaveHold.line i).mode = (s.line i).mode := by
  rw [State.line, State.leaveHold_lines, Bank.get_map, Line.leaveHold_mode]
  rfl

theorem qualifiersOk_changeReasons (h : QualifiersOk s) (r : HoldReasons) : QualifiersOk (s.changeReasons r) := by
  rcases s.changeReasons_cases r with ⟨-, -, e⟩ | ⟨-, e⟩ | e | ⟨-, -, e⟩ <;> rw [e]
  · have same := s.enterHold_qualifiers r
    split at same
    · exact qualifiersOk_abandoned h same (s.enterHold_mode r)
    · next halted => exact qualifiersOk_of_same h same (s.enterHold_mode r) fun _ => halted
  · have same := s.leaveHold_qualifiers
    split at same
    · next held => exact qualifiersOk_forgotten h (by simp [held]) same
    · next other =>
      refine qualifiersOk_of_same h same s.leaveHold_mode fun ht => ?_
      rwa [State.leaveHold_timebase, if_neg other] at ht
  · exact h
  · exact qualifiersOk_of_same h rfl (fun _ => rfl) id

theorem freshLine_mode (m : LineMode) (hold : Bool) : (freshLine m hold).mode = m := by
  cases m <;> cases hold <;> rfl

/-- A line configured anew begins with its qualifier at the reset values (R28). -/
theorem qualifiersOk_reconfigure (h : QualifiersOk s) (i : LineId) (m : LineMode) : QualifiersOk (s.reconfigure i m) := by
  intro j
  have removed := qualifiersOk_updates h (s.removeLineEntries_updates i) j
  rw [State.reconfigure, QualifierOk, State.line_setLine, State.setLine_qualifiers, State.setLine_timebase, Bank.get_set]
  split
  · exact ⟨candidateOk_waiting rfl, sampleOk_none rfl, fun _ => rfl⟩
  · exact removed

theorem Line.write_mode (l : Line) (sl : SlotSel) (p : Pattern) : (l.write sl p).mode = l.mode := by
  cases sl <;> rfl

/-- A line written with its mode kept. -/
theorem State.setLine_mode {i : LineId} {l : Line} (hl : l.mode = (s.line i).mode) (j : LineId) :
    ((s.setLine i l).line j).mode = (s.line j).mode := by
  rw [State.line_setLine]
  split
  · next hj => rw [hl, hj]
  · rfl

theorem qualifiersOk_effect (h : QualifiersOk s) (e : Effect s t) : QualifiersOk t := by
  cases e with
  | unchanged => exact h
  | start stopped => exact qualifiersOk_enterStarted h stopped
  | startZero stopped =>
    have kept : s.zeroTime.timebase.state = s.timebase.state := by rw [State.zeroTime, State.awaitTest_timebase]; rfl
    exact qualifiersOk_enterStarted (qualifiersOk_of_blocks h (s.zeroTime_qualifiers) s.zeroTime_lines kept)
      (kept.trans stopped)
  | stop => exact qualifiersOk_stopTime h
  | setTimebase =>
    exact qualifiersOk_of_blocks h (State.setTimebase_qualifiers _ _ _ _) (State.setTimebase_lines _ _ _ _)
      (State.setTimebase_state _ _ _ _)
  | reasons r => exact qualifiersOk_changeReasons h r
  | reconfigure i m => exact qualifiersOk_reconfigure h i m
  | writeSlot i sl p => exact qualifiersOk_of_same h rfl (State.setLine_mode (Line.write_mode _ sl p)) id
  | clearPattern i => exact qualifiersOk_of_same h rfl (State.setLine_mode rfl) id
  | release p => exact qualifiersOk_updates h (s.releaseThrough_updates p)
  | schedule batch => exact qualifiersOk_updates h (.foldl State.carryOut_updates batch s)
  | cancel e complete => exact qualifiersOk_updates h (s.cancelEntry_updates e complete)
  | cancelLine i => exact qualifiersOk_updates h (s.removeLineEntries_updates i)
  | clearRule k => exact qualifiersOk_updates h (s.clearRule_updates k)
  | present | clearCounters | read | watermark | rule | acknowledge | configure =>
    exact qualifiersOk_of_blocks h rfl rfl rfl

theorem Timebase.advance_state (t : Timebase) : t.advance.state = t.state := by
  unfold Timebase.advance
  split <;> rfl

theorem qualifiersOk_sampleAll (h : QualifiersOk s) (running : s.timebase.state = .running) : QualifiersOk s.sampleAll := by
  intro i
  obtain ⟨candidate, sample, -⟩ := h i
  have sampled := qualifier_sampleLine candidate sample s.timebase.time (pinLevel s.inputs i)
  rw [QualifierOk, State.sampleAll, Bank.get_mapEach]
  exact ⟨sampled.1, sampled.2, fun ht => absurd running ht⟩

theorem qualifiersOk_runTick (h : QualifiersOk s) (running : s.timebase.state = .running) (pins : Half) :
    QualifiersOk (s.runTick pins) := by
  obtain ⟨u, before, after⟩ := s.runTick_updates pins
  have state : (s.countTick pins).timebase.state = s.timebase.state := Timebase.advance_state _
  have counted : QualifiersOk (s.countTick pins) := qualifiersOk_of_blocks h rfl rfl state
  refine qualifiersOk_updates (qualifiersOk_sampleAll (qualifiersOk_updates counted before) ?_) after
  rw [before.timebase, state, running]

theorem qualifiersOk_move (h : QualifiersOk s) (m : Move s t) : QualifiersOk t := by
  cases m with
  | effect e => exact qualifiersOk_effect h e
  | tick pins running => exact qualifiersOk_runTick h running pins
  | transmit =>
    exact qualifiersOk_of_blocks h (State.transmit_qualifiers _) (State.transmit_lines _) (by rw [State.transmit_timebase])
  | noticeSent =>
    exact qualifiersOk_of_blocks h (State.noticeSent_qualifiers _) (State.noticeSent_lines _)
      (by rw [State.noticeSent_timebase])
  | awaitExpiry =>
    exact qualifiersOk_of_blocks h (State.awaitExpiry_qualifiers _) (State.awaitExpiry_lines _)
      (by rw [State.awaitExpiry_timebase])
  | outside | receiver | counters | store | reply | record | restart | defer | replyDone | deferredDone | endFrame
    | repeatExpiry | period => exact qualifiersOk_of_blocks h rfl rfl rfl

theorem qualifiersOk_atReset (r : AtReset s) : QualifiersOk s := by
  intro i
  rw [QualifierOk, r.qualifiers, Bank.get_replicate]
  exact ⟨candidateOk_waiting rfl, sampleOk_none rfl, fun _ => rfl⟩

/-- Every step keeps the capture qualifiers' candidates and samples as the modes and the timebase ask. -/
theorem step_keeps_qualifiersOk (hs : QualifiersOk s) (h : step s = .next t) : QualifiersOk t :=
  step_keeps qualifiersOk_move qualifiersOk_atReset hs h

end

end Sys2Proof.Machine
end

section
/-! Consecutive numbers, and the Capture Queue's invariant, kept by every step (R54 to R57, R59, R62, R66, R67). -/

namespace Sys2Proof.Machine

open Sys2Proof.Safety

/-! ## Consecutive numbers (R55, R142) -/

/-- The first number of a list, or the next number to be given when the list is empty. -/
def firstOr (next : Half) (l : List Half) : Half := l.head?.getD next

section
variable {next x : Half} {l : List Half}

theorem consecutive_cons : consecutive next (x :: l) = true ↔ x + 1 = firstOr next l ∧ consecutive next l = true := by
  cases l <;> simp [consecutive, firstOr]

theorem firstOr_append : firstOr (next + 1) (l ++ [next]) = firstOr next l := by
  cases l <;> simp [firstOr]

/-- The next number appended keeps the numbers consecutive. -/
theorem consecutive_append (h : consecutive next l = true) : consecutive (next + 1) (l ++ [next]) = true := by
  induction l with
  | nil => simp [consecutive]
  | cons x l ih =>
    obtain ⟨hx, hl⟩ := consecutive_cons.1 h
    exact consecutive_cons.2 ⟨hx.trans firstOr_append.symm, ih hl⟩

theorem consecutive_drop (h : consecutive next l = true) (k : Nat) : consecutive next (l.drop k) = true := by
  induction l generalizing k with
  | nil => simpa using h
  | cons x l ih =>
    cases k with
    | zero => exact h
    | succ k => exact ih (consecutive_cons.1 h).2 k

/-- The number at position `k` is the first number and `k` (R56). -/
theorem firstOr_drop (h : consecutive next l = true) {k : Nat} (hk : k ≤ l.length) :
    firstOr next (l.drop k) = firstOr next l + BitVec.ofNat 16 k := by
  induction l generalizing k with
  | nil => obtain rfl : k = 0 := by simpa using hk
           simp
  | cons x l ih =>
    obtain ⟨hx, hl⟩ := consecutive_cons.1 h
    cases k with
    | zero => simp
    | succ k =>
      rw [List.drop_succ_cons, ih hl (by simpa using hk), ← hx, Nat.add_comm k 1, BitVec.ofNat_add, ← BitVec.add_assoc]
      rfl

end

/-! ## Positions (R56) -/

theorem CaptureQueue.head_eq (q : CaptureQueue) : q.head = firstOr q.nextQseq (q.entries.map (·.qseq)) := by
  unfold CaptureQueue.head firstOr
  cases q.entries <;> rfl

theorem toNat_ofNat16 {n : Nat} (h : n ≤ 256) : (BitVec.ofNat 16 n).toNat = n := by
  rw [BitVec.toNat_ofNat]
  omega

/-- The position of the number `k` past the head. -/
theorem CaptureQueue.position_head_add (q : CaptureQueue) {k : Nat} (h : k ≤ 256) :
    q.position (q.head + BitVec.ofNat 16 k) = k := by
  rw [CaptureQueue.position, add_sub_cancel_left, toNat_ofNat16 h]

/-! ## What the operations of the queue keep -/

section
variable {q : CaptureQueue}

theorem countOk_satInc {n : Nat} (h : CountOk n) : CountOk (satInc32 n) := by
  obtain ⟨h1, h2⟩ := h
  unfold satInc32
  split <;> constructor <;> omega

theorem queueOk_reset : QueueOk .reset := by decide

/-- The flags may stand at any value. -/
theorem queueOk_flags (h : QueueOk q) (ready watermark : Bool) :
    QueueOk { q with readyFlag := ready, watermarkFlag := watermark } := h

theorem queueOk_rearm (h : QueueOk q) : QueueOk q.rearm := queueOk_flags h _ _

theorem queueOk_setWatermark (h : QueueOk q) {w : Nat} (range : w ≤ 256) : QueueOk (q.setWatermark w) := by
  obtain ⟨held, numbers, pointer, -, entries, loss⟩ := h
  exact ⟨held, numbers, pointer, range, entries, loss⟩

/-- The head stays when an entry with the next number is appended. -/
theorem CaptureQueue.append_head (q : CaptureQueue) {entry : Half → QueueEntry} (number : (entry q.nextQseq).qseq = q.nextQseq) :
    (q.append entry).head = q.head := by
  rw [CaptureQueue.head_eq, CaptureQueue.head_eq, CaptureQueue.append]
  simp only [List.map_append, List.map_cons, List.map_nil, number]
  exact firstOr_append

/-- An entry appended to a queue that is not full (R55, R57). -/
theorem queueOk_append (h : QueueOk q) {entry : Half → QueueEntry} (number : (entry q.nextQseq).qseq = q.nextQseq)
    (ok : entryOk (entry q.nextQseq) = true) (room : q.entries.length < 256) : QueueOk (q.append entry) := by
  obtain ⟨-, numbers, pointer, watermark, entries, loss⟩ := h
  refine ⟨?_, ?_, ?_, watermark, ?_, ?_⟩
  · simpa [CaptureQueue.append] using room
  · simp only [CaptureQueue.append, List.map_append, List.map_cons, List.map_nil, number]
    exact consecutive_append numbers
  · rw [CaptureQueue.position, CaptureQueue.append_head q number]
    simp only [CaptureQueue.append, List.length_append, List.length_singleton]
    exact Nat.le_succ_of_le pointer
  · simp only [CaptureQueue.append, List.all_append, entries, Bool.true_and]
    simpa using ok
  · intro p hp
    have := (loss p hp).1
    omega

/-- A loss counted while the queue is full (R59). -/
theorem queueOk_loss (h : QueueOk q) (full : q.entries.length = 256) {p : PendingLoss} (count : CountOk p.count) :
    QueueOk { q with loss := some p } := by
  obtain ⟨held, numbers, pointer, watermark, entries, -⟩ := h
  exact ⟨held, numbers, pointer, watermark, entries, by rintro _ ⟨⟩; exact ⟨full, count⟩⟩

/-- The read pointer moves forward to a position within the queue (R62). -/
theorem queueOk_advancePointer (h : QueueOk q) {stop : Nat} (within : stop ≤ q.entries.length) :
    QueueOk (q.advancePointer stop) := by
  obtain ⟨held, numbers, pointer, watermark, entries, loss⟩ := h
  refine ⟨held, numbers, ?_, watermark, entries, loss⟩
  unfold CaptureQueue.advancePointer
  split
  · exact (q.position_head_add (by omega)).trans_le within
  · exact pointer

/-- The run read ends within the queue. -/
theorem CaptureQueue.run_length (q : CaptureQueue) (first max : Nat) : (q.run first max).length ≤ q.entries.length - first := by
  simp [CaptureQueue.run]

theorem queueOk_read (h : QueueOk q) {first : Nat} (max : Nat)
    (within : first < q.entries.length ∨ first = q.position q.readPointer) : QueueOk (q.read first max) := by
  have pointer : q.position q.readPointer ≤ q.entries.length := h.2.2.1
  have length := q.run_length first max
  unfold CaptureQueue.read
  dsimp only
  split
  · exact queueOk_rearm h
  · exact queueOk_rearm (queueOk_advancePointer h (by omega))

/-- The head after a release (R56, R66). -/
theorem CaptureQueue.release_head (h : QueueOk q) {p : Nat} (held : p < q.entries.length) :
    (q.release p).head = q.head + BitVec.ofNat 16 (p + 1) := by
  rw [CaptureQueue.head_eq, CaptureQueue.head_eq, CaptureQueue.release]
  simp only [List.map_drop]
  exact firstOr_drop h.2.1 (by simpa using held)

/-- The read pointer's position after a release of entries that were read (R66). -/
theorem CaptureQueue.release_position (h : QueueOk q) {p : Nat} (held : p < q.entries.length)
    (read : p < q.position q.readPointer) :
    (q.release p).position q.readPointer = q.position q.readPointer - (p + 1) := by
  have limit := h.1
  unfold CaptureQueue.position at read ⊢
  rw [CaptureQueue.release_head h held, ← BitVec.sub_sub, BitVec.toNat_sub_of_le, toNat_ofNat16 (by omega)]
  rw [BitVec.le_def, toNat_ofNat16 (by omega)]
  exact read

theorem queueOk_release (h : QueueOk q) {p : Nat} (held : p < q.entries.length) (read : p < q.position q.readPointer) :
    QueueOk { q.release p with loss := none } := by
  have position := CaptureQueue.release_position h held read
  obtain ⟨limit, numbers, pointer, watermark, entries, -⟩ := h
  have length : (q.entries.drop (p + 1)).length = q.entries.length - (p + 1) := List.length_drop
  refine ⟨?_, ?_, ?_, watermark, ?_, by rintro _ ⟨⟩⟩
  · simp only [CaptureQueue.release, length]; omega
  · simp only [CaptureQueue.release, List.map_drop]
    exact consecutive_drop numbers _
  · refine (position.trans_le ?_ : _ ≤ _)
    simp only [CaptureQueue.release, length]
    omega
  · rw [List.all_eq_true] at entries ⊢
    exact fun e he => entries e (List.mem_of_mem_drop he)

end

/-! ## What the operations of the part keep -/

section
variable {s t : State}

theorem queueOk_noteReady (h : QueueOk s.queue) : QueueOk s.noteReady.queue := by
  unfold State.noteReady
  split
  · exact queueOk_flags h _ _
  · exact h

theorem queueOk_noteWatermark (h : QueueOk s.queue) : QueueOk s.noteWatermark.queue := by
  unfold State.noteWatermark
  split
  · exact queueOk_flags h _ _
  · exact h

theorem queueOk_appendEntry (h : QueueOk s.queue) {entry : Half → QueueEntry}
    (number : (entry s.queue.nextQseq).qseq = s.queue.nextQseq) (ok : entryOk (entry s.queue.nextQseq) = true)
    (room : s.queue.entries.length < 256) : QueueOk (s.appendEntry entry).queue := by
  rw [State.appendEntry, State.awaitTest_queue]
  exact queueOk_noteWatermark (queueOk_noteReady (queueOk_append h number ok room))

theorem queueOk_loseCapture (h : QueueOk s.queue) (full : s.queue.entries.length = 256) (c : Capture) :
    QueueOk (s.loseCapture c).queue := by
  unfold State.loseCapture
  split
  · next p hp => exact queueOk_loss h full (countOk_satInc (h.2.2.2.2.2 p hp).2)
  · exact queueOk_loss (p := ⟨1, c.stamp⟩) h full ⟨Nat.le_refl 1, by simp⟩

theorem queueOk_takeCapture (h : QueueOk s.queue) (c : Capture) (fired : List RuleId) :
    QueueOk (s.takeCapture c fired).queue := by
  unfold State.takeCapture
  split
  · next room => exact queueOk_appendEntry h rfl rfl room
  · next room => exact queueOk_loseCapture h (Nat.le_antisymm h.1 (Nat.le_of_not_lt room)) c

theorem queueOk_handOver (h : QueueOk s.queue) (c : Capture) : QueueOk (s.handOver c).queue := by
  have matched : QueueOk (s.matchCapture c).1.queue := by rwa [State.matchCapture_queue]
  rw [State.handOver]
  exact queueOk_takeCapture matched c (s.matchCapture c).2

theorem queueOk_handOvers (cs : List Capture) (h : QueueOk s.queue) : QueueOk (cs.foldl State.handOver s).queue := by
  induction cs generalizing s with
  | nil => exact h
  | cons c cs ih =>
    rw [List.foldl_cons]
    exact ih (queueOk_handOver h c)

theorem queueOk_runTick (h : QueueOk s.queue) (pins : Half) : QueueOk (s.runTick pins).queue := by
  unfold State.runTick State.qualify
  refine queueOk_handOvers _ ?_
  rwa [State.sampleAll_queue, State.expireDue_queue, State.patternSteps_queue, State.awaitTest_queue]

/-- The release, and the GAP entry of a pending loss (R66, R67). -/
theorem queueOk_releaseThrough (h : QueueOk s.queue) {p : Nat} (held : p < s.queue.entries.length)
    (read : p < s.queue.position s.queue.readPointer) : QueueOk (s.releaseThrough p).queue := by
  have released := queueOk_release h held read
  have limit := h.1
  unfold State.releaseThrough State.appendGap
  split
  · next loss hl =>
    refine queueOk_appendEntry released rfl ?_ ?_
    · simpa [entryOk] using (h.2.2.2.2.2 loss hl).2
    · simp only [CaptureQueue.release, List.length_drop]
      omega
  · next hl =>
    have : ({ s.queue.release p with loss := none } : CaptureQueue) = s.queue.release p := by
      rw [show (none : Option PendingLoss) = (s.queue.release p).loss from hl.symm]
    rwa [this] at released

theorem queueOk_effect (h : QueueOk s.queue) (e : Effect s t) : QueueOk t.queue := by
  cases e with
  | read first max within => exact queueOk_read h max within
  | release p held read => exact queueOk_releaseThrough h held read
  | watermark w range => exact queueOk_setWatermark h range
  | schedule batch => rwa [foldl_keeps State.queue _ State.carryOut_queue]
  | startZero => rwa [State.enterStarted_queue, State.zeroTime_queue]
  | unchanged | present | clearCounters | start | stop | setTimebase | reasons | reconfigure | writeSlot | clearPattern
    | cancel | cancelLine | rule | clearRule | acknowledge | configure => simpa using h

theorem queueOk_move (h : QueueOk s.queue) (m : Move s t) : QueueOk t.queue := by
  cases m with
  | effect e => exact queueOk_effect h e
  | tick pins => exact queueOk_runTick h pins
  | transmit => rwa [State.transmit_queue]
  | noticeSent => rwa [State.noticeSent_queue]
  | awaitExpiry => rwa [State.awaitExpiry_queue]
  | outside | receiver | counters | store | reply | record | restart | defer | replyDone | deferredDone | endFrame
    | repeatExpiry | period => exact h

/-- Every step keeps the Capture Queue's numbers, pointer and loss. -/
theorem step_keeps_queueOk (hs : QueueOk s.queue) (h : step s = .next t) : QueueOk t.queue :=
  step_keeps (P := fun s => QueueOk s.queue) queueOk_move (fun r => r.queue ▸ queueOk_reset) hs h

end

end Sys2Proof.Machine
end

section
/-! The Notice Queue's invariant, kept by every step (R142, R144, R146 to R151, R154, R156). -/

namespace Sys2Proof.Machine

open Sys2Proof.Safety

/-! ## The transmitter's side -/

section
variable {q : NoticeQueue} {tx : Transmitter}

/-- No first sending is in transmission. -/
theorem firstSendingOk_none (h : tx.firstSent = none) : firstSendingOk q tx = true := by
  unfold firstSendingOk
  rw [h]

/-- The first sending in transmission is that of the oldest UNSENT record (R149), but for a count that has risen (R148). -/
theorem firstSendingOk_some {c : NoticeContent} (h : tx.firstSent = some c) :
    firstSendingOk q tx = true ↔ ∃ n, q.records.find? (!·.sent) = some n ∧ n.content.nseq = c.nseq
      ∧ n.content.stamp = c.stamp ∧ (n.content.body = c.body
        ∨ ∃ now sent, n.content.body = .noticeLost now ∧ c.body = .noticeLost sent ∧ sent < now) := by
  unfold firstSendingOk
  rw [h]
  cases hf : q.records.find? (!·.sent) with
  | none => simp
  | some n =>
    simp only [Bool.and_eq_true, Bool.or_eq_true, beq_iff_eq, Option.some.injEq, exists_eq_left', and_assoc]
    refine and_congr_right fun _ => and_congr_right fun _ => or_congr_right ?_
    split
    · next hn hc => simp [hn, hc]
    · next other =>
      simp only [Bool.false_eq_true, false_iff, not_exists, not_and]
      exact fun now sent hn hc _ => other now sent hn hc

/-- The invariant reads, of the queue, what its frames carry and the oldest UNSENT record. -/
theorem firstSendingOk_congr {r : NoticeQueue}
    (h : (r.records.find? (!·.sent)).map (·.content) = (q.records.find? (!·.sent)).map (·.content)) :
    firstSendingOk r tx = firstSendingOk q tx := by
  cases hs : tx.firstSent with
  | none => rw [firstSendingOk_none hs, firstSendingOk_none hs]
  | some c =>
    unfold firstSendingOk
    rw [hs]
    cases hr : r.records.find? (!·.sent) with
    | none =>
      cases hq : q.records.find? (!·.sent) with
      | none => rfl
      | some n => simp [hr, hq] at h
    | some m =>
      cases hq : q.records.find? (!·.sent) with
      | none => simp [hr, hq] at h
      | some n =>
        have same : m.content = n.content := by simpa [hr, hq] using h
        simp only [same]

theorem noticesOk_tx (h : NoticesOk q tx) {tx' : Transmitter} (none : tx'.firstSent = none) : NoticesOk q tx' := by
  obtain ⟨len, numbers, few, full, bodies, order, marks, lost, pend, timer, -⟩ := h
  exact ⟨len, numbers, few, full, bodies, order, marks, lost, pend, timer, firstSendingOk_none none⟩

/-! ## Raising a notice -/

theorem bodyOk_ordinary {n : Notice} (h : n.content.body.isOrdinary = true) : bodyOk n = true := by
  unfold bodyOk
  split
  · next e => simp [e, NoticeBody.isOrdinary] at h
  · rfl

/-- A record appended: a NOTICE_LOST, or a notice that leaves one place free (R144, R146). -/
theorem noticesOk_append (h : NoticesOk q tx) (now : Stamp) {b : NoticeBody} (room : q.records.length ≤ 31)
    (ok : bodyOk (freshNotice q.nextNseq now b) = true)
    (place : isLost (freshNotice q.nextNseq now b) = true ∨ q.records.length < 31) : NoticesOk (q.append now b) tx := by
  obtain ⟨len, numbers, few, full, bodies, order, marks, lost, pend, timer, first⟩ := h
  refine ⟨?_, ?_, ?_, ?_, ?_, ?_, ?_, lost, ?_, timer, ?_⟩
  · simpa [NoticeQueue.append] using Nat.succ_le_succ room
  · simp only [NoticeQueue.append, List.map_append, List.map_cons, List.map_nil]
    exact consecutive_append numbers
  · simp only [NoticeQueue.append, List.filter_append, List.length_append]
    rcases place with l | l
    · simpa [l] using few
    · have := List.length_filter_le (fun n => !isLost n) q.records
      have := List.length_filter_le (fun n => !isLost n) [freshNotice q.nextNseq now b]
      rw [List.length_singleton] at this
      omega
  · intro h32
    simp only [NoticeQueue.append, List.length_append, List.length_singleton] at h32
    simp only [NoticeQueue.append, List.getLast?_concat, Option.any_some]
    exact place.resolve_right (by omega)
  · simp only [NoticeQueue.append, List.all_append, bodies, Bool.true_and]
    simpa using ok
  · simp only [NoticeQueue.append, List.pairwise_append]
    refine ⟨order, List.pairwise_singleton _ _, fun a _ n hn => ?_⟩
    obtain rfl := List.mem_singleton.1 hn
    exact fun sent => by cases sent
  · intro n hn
    rcases List.mem_append.1 hn with hn | hn
    · exact marks n hn
    · obtain rfl := List.mem_singleton.1 hn
      exact fun mark => by cases mark
  · intro hp
    have := (pend hp).1
    omega
  · cases hs : tx.firstSent with
    | none => exact firstSendingOk_none hs
    | some c =>
      obtain ⟨n, found, -⟩ := (firstSendingOk_some hs).1 first
      rw [firstSendingOk_congr (q := q)]
      · exact first
      · simp [NoticeQueue.append, List.find?_append, found]

/-- What an open NOTICE_LOST is. -/
theorem Notice.openLoss_eq_some {n : Notice} {count : Nat} :
    n.openLoss = some count ↔ n.content.body = .noticeLost count ∧ n.sent = false := by
  unfold Notice.openLoss
  split
  · next hb hs => simp [hb, hs]
  · next other =>
    simp only [reduceCtorEq, false_iff, not_and]
    exact fun hb hs => other count hb hs

/-- A loss counted in the tail's NOTICE_LOST (R146 case 1). -/
theorem noticesOk_countLoss (h : NoticesOk q tx) {init : List Notice} {n : Notice} (records : q.records = init ++ [n])
    {count : Nat} (isOpen : n.openLoss = some count) :
    NoticesOk { q with records := init ++ [n.withLoss (satInc32 count)] } tx := by
  obtain ⟨len, numbers, few, full, bodies, order, marks, lost, pend, timer, first⟩ := h
  obtain ⟨body, unsent⟩ := Notice.openLoss_eq_some.1 isOpen
  have lostBefore : isLost n = true := by simp [isLost, body]
  have lostAfter : isLost (n.withLoss (satInc32 count)) = true := rfl
  rw [records] at len numbers few bodies order marks
  rw [List.pairwise_append] at order
  refine ⟨?_, ?_, ?_, fun _ => by simp [isLost, Notice.withLoss], ?_, ?_, ?_, lost, ?_, timer, ?_⟩
  · simpa using len
  · simpa [Notice.withLoss] using numbers
  · simpa [List.filter_append, lostBefore, lostAfter] using few
  · rw [List.all_append, Bool.and_eq_true] at bodies ⊢
    refine ⟨bodies.1, ?_⟩
    have : CountOk count := by simpa [bodyOk, body] using bodies.2
    simpa [bodyOk, Notice.withLoss] using countOk_satInc this
  · refine List.pairwise_append.2 ⟨order.1, List.pairwise_singleton _ _, fun a _ m hm => ?_⟩
    obtain rfl := List.mem_singleton.1 hm
    exact fun sent => by simp [Notice.withLoss, unsent] at sent
  · intro m hm
    rcases List.mem_append.1 hm with hm | hm
    · exact marks m (List.mem_append_left _ hm)
    · obtain rfl := List.mem_singleton.1 hm
      exact marks n (by simp)
  · intro hp
    have all := (pend hp).2.2
    rw [records, List.all_append, Bool.and_eq_true] at all
    simp [unsent] at all
  · cases hs : tx.firstSent with
    | none => exact firstSendingOk_none hs
    | some c =>
      obtain ⟨m, found, nseq, stamp, value⟩ := (firstSendingOk_some hs).1 first
      rw [records, List.find?_append] at found
      refine (firstSendingOk_some hs).2 ?_
      simp only [List.find?_append]
      cases hi : init.find? (!·.sent) with
      | some m' =>
        rw [hi] at found
        exact ⟨m, found, nseq, stamp, value⟩
      | none =>
        have same : n = m := by simpa [hi, unsent] using found
        subst same
        refine ⟨n.withLoss (satInc32 count), by simp [Notice.withLoss, unsent], nseq, stamp, ?_⟩
        rcases value with same | ⟨now, sent, hn, hc, less⟩
        · by_cases top : count < 4294967295
          · exact Or.inr ⟨count + 1, count, by simp [Notice.withLoss, satInc32, top], by rw [← same, body], by omega⟩
          · exact Or.inl (by simp [Notice.withLoss, satInc32, top, ← same, body])
        · obtain rfl : count = now := by simpa [body] using hn
          refine Or.inr ⟨satInc32 count, sent, rfl, hc, ?_⟩
          unfold satInc32
          split <;> omega

/-- A loss counted outside the records, when the tail's NOTICE_LOST is SENT (R146 case 3). -/
theorem noticesOk_pendingLost (h : NoticesOk q tx) (full : q.records.length = 32)
    (closed : ∀ n ∈ q.records.getLast?, n.openLoss = none) :
    NoticesOk { q with pendingLost := satInc32 q.pendingLost } tx := by
  obtain ⟨len, numbers, few, tail, bodies, order, marks, lost, pend, timer, first⟩ := h
  refine ⟨len, numbers, few, tail, bodies, order, marks, ?_, fun _ => ?_, timer, first⟩
  · show satInc32 _ ≤ _
    unfold satInc32
    split <;> omega
  · obtain ⟨init, n, records⟩ : ∃ init n, q.records = init ++ [n] :=
      (List.eq_nil_or_concat' q.records).resolve_left (by rintro e; simp [e] at full)
    have lostTail : isLost n = true := by simpa [records] using tail full
    have sent : n.sent = true := by
      by_contra unsent
      have := closed n (by simp [records])
      unfold isLost at lostTail
      split at lostTail
      · next count body => simp [Notice.openLoss_eq_some.2 ⟨body, by simpa using unsent⟩] at this
      · cases lostTail
    have every : ∀ m ∈ q.records, m.sent = true := by
      intro m hm
      rw [records] at hm order
      rcases List.mem_append.1 hm with hm | hm
      · exact (List.pairwise_append.1 order).2.2 m hm n (by simp) sent
      · rwa [List.mem_singleton.1 hm]
    refine ⟨full, ?_, List.all_eq_true.2 every⟩
    exact List.any_eq_true.2 ⟨n, by simp [records], sent⟩

/-- An ordinary notice shut out by 31 or more records is counted (R146). -/
theorem noticesOk_lose (h : NoticesOk q tx) (now : Stamp) (room : 31 ≤ q.records.length) : NoticesOk (q.lose now) tx := by
  unfold NoticeQueue.lose
  split
  · next m hm =>
    obtain ⟨n, hn, hc⟩ := Option.bind_eq_some_iff.1 hm
    obtain ⟨count, isOpen, rfl⟩ := Option.map_eq_some_iff.1 hc
    have records : q.records = q.records.dropLast ++ [n] :=
      (List.dropLast_append_getLast? n hn).symm
    exact noticesOk_countLoss h records isOpen
  · next closed =>
    have closed : ∀ n ∈ q.records.getLast?, n.openLoss = none := by
      intro n hn
      rw [Option.bind_eq_none_iff] at closed
      simpa using closed n hn
    split
    · next full => exact noticesOk_append h now (by rw [full]; decide) rfl (.inl rfl)
    · next other =>
      have len := h.1
      have : q.records.length ≠ 31 := other
      exact noticesOk_pendingLost h (by omega) closed

theorem noticesOk_raise (h : NoticesOk q tx) (now : Stamp) {b : NoticeBody} (ordinary : b.isOrdinary = true) :
    NoticesOk (q.raise now b) tx := by
  unfold NoticeQueue.raise
  split
  · split
    · next room =>
      have room : q.records.length < 31 := room
      exact noticesOk_append h now (by omega) (bodyOk_ordinary ordinary) (.inr room)
    · next room => exact noticesOk_lose h now (Nat.le_of_not_lt room)
  · exact h

/-! ## Repeat marks, the mask and the timer (R150, R151, R156) -/

/-- What the invariant says of the records besides their marks, and of the counts. -/
def RecordsOk (q : NoticeQueue) (tx : Transmitter) : Prop :=
  q.records.length ≤ 32 ∧ consecutive q.nextNseq (q.records.map (·.content.nseq)) = true
    ∧ (q.records.filter fun n => !isLost n).length ≤ 31 ∧ (q.records.length = 32 → q.records.getLast?.any isLost = true)
    ∧ q.records.all bodyOk = true ∧ q.records.Pairwise (fun a b => b.sent = true → a.sent = true)
    ∧ q.pendingLost ≤ 4294967295
    ∧ (q.pendingLost ≠ 0 → q.records.length = 32 ∧ q.anySent = true ∧ q.records.all (·.sent) = true)
    ∧ firstSendingOk q tx = true

theorem noticesOk_iff : NoticesOk q tx ↔ RecordsOk q tx ∧ (∀ n ∈ q.records, n.mark = true → n.sent = true)
    ∧ (q.timer.isSome = true → q.interval ≠ 0) := by
  unfold RecordsOk
  tauto

theorem firstSendingOk_unmarkAll :
    firstSendingOk { q with records := unmarkAll q.records } tx = firstSendingOk q tx := by
  refine firstSendingOk_congr ?_
  simp [unmarkAll, List.find?_map, Function.comp_def]

/-- The marks are read for nothing else. -/
theorem recordsOk_unmarkAll : RecordsOk { q with records := unmarkAll q.records } tx ↔ RecordsOk q tx := by
  have lost : (fun n : Notice => !isLost { n with mark := false }) = fun n => !isLost n := rfl
  have body : (fun n : Notice => bodyOk { n with mark := false }) = bodyOk := rfl
  have tail (o : Option Notice) : (o.map fun n => { n with mark := false }).any isLost = o.any isLost := by cases o <;> rfl
  unfold RecordsOk
  rw [firstSendingOk_unmarkAll]
  simp only [unmarkAll, NoticeQueue.anySent, List.length_map, List.map_map, List.filter_map, List.getLast?_map,
    List.all_map, List.any_map, List.pairwise_map, Function.comp_def, lost, body, tail]

/-- Marks, the mask, the interval and the timer are written. -/
theorem noticesOk_settings (h : NoticesOk q tx) {records : List Notice} (same : unmarkAll records = unmarkAll q.records)
    (marked : ∀ n ∈ records, n.mark = true → n.sent = true) {mask interval : Byte} {timer : Option Nat}
    (settings : timer.isSome = true → interval ≠ 0) :
    NoticesOk { q with records := records, mask := mask, interval := interval, timer := timer } tx := by
  refine noticesOk_iff.2 ⟨?_, marked, settings⟩
  have ok := (noticesOk_iff.1 h).1
  rw [← recordsOk_unmarkAll] at ok ⊢
  simp only [same]
  exact ok

theorem unmarkAll_idem (l : List Notice) : unmarkAll (unmarkAll l) = unmarkAll l := by simp [unmarkAll]

theorem unmarkAll_markRepeats (l : List Notice) : unmarkAll (markRepeats l) = unmarkAll l := by
  simp [unmarkAll, markRepeats]

theorem unmarkAll_unmarkFirst (l : List Notice) : unmarkAll (unmarkFirst l) = unmarkAll l := by
  induction l with
  | nil => rfl
  | cons n l ih =>
    unfold unmarkFirst
    split
    · rfl
    · simpa [unmarkAll] using ih

theorem marked_unmarkFirst {l : List Notice} (h : ∀ n ∈ l, n.mark = true → n.sent = true) :
    ∀ n ∈ unmarkFirst l, n.mark = true → n.sent = true := by
  induction l with
  | nil => exact h
  | cons n l ih =>
    rw [List.forall_mem_cons] at h
    unfold unmarkFirst
    split
    · exact List.forall_mem_cons.2 ⟨fun m => (by cases m), h.2⟩
    · exact List.forall_mem_cons.2 ⟨h.1, ih h.2⟩

theorem noticesOk_unmarkFirst (h : NoticesOk q tx) : NoticesOk { q with records := unmarkFirst q.records } tx :=
  noticesOk_settings h (unmarkAll_unmarkFirst _) (marked_unmarkFirst (noticesOk_iff.1 h).2.1) (noticesOk_iff.1 h).2.2

/-- The timer runs, where it may (R150). -/
theorem noticesOk_timer (h : NoticesOk q tx) {timer : Option Nat} (settings : timer.isSome = true → q.interval ≠ 0) :
    NoticesOk { q with timer := timer } tx :=
  noticesOk_settings h rfl (noticesOk_iff.1 h).2.1 settings

theorem noticesOk_configure (h : NoticesOk q tx) (mask interval : Byte) : NoticesOk (q.configure mask interval) tx := by
  unfold NoticeQueue.configure
  dsimp only
  split
  · refine noticesOk_settings h (unmarkAll_idem _) (fun n hn mark => ?_) (by simp)
    obtain ⟨m, -, rfl⟩ := List.mem_map.1 hn
    cases mark
  · next on => exact noticesOk_settings h rfl (noticesOk_iff.1 h).2.1 fun _ => on

theorem noticesOk_expire (h : NoticesOk q tx) (runs : q.timer.isSome = true) : NoticesOk q.expire tx := by
  have on := (noticesOk_iff.1 h).2.2 runs
  unfold NoticeQueue.expire
  split
  · refine noticesOk_settings h (unmarkAll_markRepeats _) (fun n hn mark => ?_) fun _ => on
    obtain ⟨m, hm, rfl⟩ := List.mem_map.1 hn
    rcases Bool.or_eq_true _ _ ▸ mark with mark | sent
    · exact (noticesOk_iff.1 h).2.1 m hm mark
    · exact sent
  · exact noticesOk_timer h (by simp)

/-! ## Acknowledging (R154) -/

/-- The records from the head through a SENT one leave, with the count of those lost. -/
theorem noticesOk_drop (h : NoticesOk q tx) {p : Nat} {n : Notice} (held : q.records[p]? = some n) (sent : n.sent = true) :
    NoticesOk { q with records := q.records.drop (p + 1), pendingLost := 0 } tx := by
  obtain ⟨len, numbers, few, full, bodies, order, marks, lost, pend, timer, first⟩ := h
  obtain ⟨hp, rfl⟩ := List.getElem?_eq_some_iff.1 held
  have shorter : (q.records.drop (p + 1)).length ≤ 31 := by rw [List.length_drop]; omega
  refine ⟨by show (q.records.drop _).length ≤ 32; omega, ?_, ?_, fun h32 => ?_, ?_, order.drop, fun m hm => ?_, Nat.zero_le _,
    fun h0 => absurd rfl h0, timer, ?_⟩
  · simp only [List.map_drop]
    exact consecutive_drop numbers _
  · exact (List.length_filter_le _ _).trans shorter
  · replace h32 : (q.records.drop (p + 1)).length = 32 := h32
    omega
  · rw [List.all_eq_true] at bodies ⊢
    exact fun m hm => bodies m (List.mem_of_mem_drop hm)
  · exact marks m (List.mem_of_mem_drop hm)
  · rw [← first]
    refine firstSendingOk_congr (congrArg _ ?_)
    conv_rhs => rw [← List.take_append_drop (p + 1) q.records, List.find?_append]
    have gone : (q.records.take (p + 1)).find? (!·.sent) = none := by
      rw [List.find?_eq_none]
      intro m hm
      obtain ⟨i, hi, rfl⟩ := List.getElem_of_mem hm
      rw [List.length_take] at hi
      rw [List.getElem_take]
      rcases Nat.lt_or_eq_of_le (show i ≤ p by omega) with hip | rfl
      · simpa using List.pairwise_iff_getElem.1 order i p (by omega) hp hip sent
      · simpa using sent
    rw [gone, Option.none_or]

theorem noticesOk_acknowledge (h : NoticesOk q tx) {p : Nat} {n : Notice} (held : q.records[p]? = some n)
    (sent : n.sent = true) (now : Stamp) : NoticesOk (q.acknowledge now p) tx := by
  have dropped := noticesOk_drop h held sent
  have lost : q.pendingLost ≤ 4294967295 := (noticesOk_iff.1 h).1.2.2.2.2.2.2.1
  have reported : NoticesOk ({ q with records := q.records.drop (p + 1) }.reportLost now) tx := by
    unfold NoticeQueue.reportLost
    split
    · next some =>
      have hp := (List.getElem?_eq_some_iff.1 held).1
      have room : (q.records.drop (p + 1)).length ≤ 31 := by
        have := h.1
        rw [List.length_drop]
        omega
      refine noticesOk_append dropped now room ?_ (.inl rfl)
      simpa [bodyOk, freshNotice] using ⟨some, lost⟩
    · next none =>
      have zero : q.pendingLost = 0 := Nat.eq_zero_of_not_pos none
      rwa [← zero] at dropped
  refine noticesOk_timer reported ?_
  split
  · simp
  · next on =>
    rw [Bool.or_eq_true, not_or, beq_iff_eq] at on
    exact fun _ => on.2

/-! ## A first sending completes (R148) -/

theorem consecutive_getElem {next : Half} {l : List Half} (h : consecutive next l = true) {i : Nat} (hi : i < l.length) :
    l[i] = firstOr next l + BitVec.ofNat 16 i := by
  rw [← firstOr_drop h (Nat.le_of_lt hi), List.drop_eq_getElem_cons hi]
  rfl

theorem consecutive_nodup {next : Half} {l : List Half} (h : consecutive next l = true) (short : l.length ≤ 256) :
    l.Nodup := by
  refine List.pairwise_iff_getElem.2 fun i j hi hj less same => ?_
  rw [consecutive_getElem h hi, consecutive_getElem h hj, BitVec.add_right_inj] at same
  have := congrArg BitVec.toNat same
  rw [toNat_ofNat16 (by omega), toNat_ofNat16 (by omega)] at this
  omega

/-- A record is marked SENT where it still is what its frame carried. -/
def sentIf (c : NoticeContent) (n : Notice) : Notice := if n.content = c then { n with sent := true } else n

theorem sentIf_content (c : NoticeContent) (n : Notice) : (sentIf c n).content = n.content := by
  unfold sentIf
  split <;> rfl

theorem sentIf_mark (c : NoticeContent) (n : Notice) : (sentIf c n).mark = n.mark := by
  unfold sentIf
  split <;> rfl

theorem sentIf_sent {c : NoticeContent} {n : Notice} (h : n.sent = true) : (sentIf c n).sent = true := by
  unfold sentIf
  split
  · rfl
  · exact h

/-- While a first sending is in transmission, it alone can become SENT, and every record before it is (R148, R149). -/
theorem markSent_split (h : NoticesOk q tx) {c : NoticeContent} (hs : tx.firstSent = some c) :
    ∃ before n after, q.records = before ++ n :: after ∧ n.sent = false ∧ (∀ m ∈ before, m.sent = true)
      ∧ markSent c q.records = before ++ sentIf c n :: after := by
  obtain ⟨len, numbers, few, full, bodies, order, marks, lost, pend, timer, first⟩ := h
  obtain ⟨n, found, nseq, -⟩ := (firstSendingOk_some hs).1 first
  obtain ⟨unsent, before, after, records, sent⟩ := List.find?_eq_some_iff_append.1 found
  have nodup := consecutive_nodup numbers (by rw [List.length_map]; omega)
  rw [records, List.map_append, List.map_cons, List.nodup_middle, List.nodup_cons] at nodup
  have other : ∀ m, m ∈ before ∨ m ∈ after → m.content ≠ c := by
    intro m hm same
    refine nodup.1 ?_
    rw [nseq, ← same, ← List.map_append]
    exact List.mem_map_of_mem (List.mem_append.2 hm)
  have kept (l : List Notice) (hl : ∀ m ∈ l, m.content ≠ c) : markSent c l = l :=
    (List.map_congr_left fun m hm => if_neg (hl m hm)).trans (List.map_id l)
  refine ⟨before, n, after, records, by simpa using unsent, fun m hm => by simpa using sent m hm, ?_⟩
  rw [records, markSent, List.map_append, List.map_cons]
  exact congrArg₂ _ (kept before fun m hm => other m (.inl hm))
    (congrArg₂ _ rfl (kept after fun m hm => other m (.inr hm)))

/-- A first sending completes: its record becomes SENT, unless its count has risen (R148). -/
theorem noticesOk_settle (h : NoticesOk q tx) {c : NoticeContent} (hs : tx.firstSent = some c) :
    NoticesOk (q.settle c) .idle := by
  obtain ⟨before, n, after, records, unsent, sent, marked⟩ := markSent_split h hs
  obtain ⟨len, numbers, few, full, bodies, order, marks, lost, pend, timer, -⟩ := h
  have contents : (markSent c q.records).map (·.content) = q.records.map (·.content) := by
    rw [markSent, List.map_map]
    exact List.map_congr_left fun m _ => sentIf_content c m
  have length : (markSent c q.records).length = q.records.length := by simp [markSent]
  have isLost_sentIf (m : Notice) : isLost (sentIf c m) = isLost m := by rw [isLost, isLost, sentIf_content]
  have bodyOk_sentIf (m : Notice) : bodyOk (sentIf c m) = bodyOk m := by rw [bodyOk, bodyOk, sentIf_content]
  have map : markSent c q.records = q.records.map (sentIf c) := rfl
  refine ⟨?_, ?_, ?_, ?_, ?_, ?_, ?_, lost, ?_, ?_, rfl⟩
  · exact length.trans_le len
  · have : (markSent c q.records).map (·.content.nseq) = q.records.map (·.content.nseq) := by
      simpa only [List.map_map, Function.comp_def] using congrArg (List.map (·.nseq)) contents
    simpa only [NoticeQueue.settle, this] using numbers
  · simpa only [NoticeQueue.settle, map, List.filter_map, List.length_map, Function.comp_def, isLost_sentIf] using few
  · simpa only [NoticeQueue.settle, map, List.length_map, List.getLast?_map, Option.any_map, isLost_sentIf] using full
  · simpa only [NoticeQueue.settle, map, List.all_map, Function.comp_def, bodyOk_sentIf] using bodies
  · show (markSent c q.records).Pairwise _
    rw [marked]
    rw [records, List.pairwise_append, List.pairwise_cons] at order
    refine List.pairwise_append.2 ⟨order.1, List.pairwise_cons.2 ⟨fun m hm hms => ?_, order.2.1.2⟩, fun m hm _ _ _ => sent m hm⟩
    simpa [unsent] using order.2.1.1 m hm hms
  · intro m hm mark
    obtain ⟨m', hm', rfl⟩ := List.mem_map.1 hm
    exact sentIf_sent (marks m' hm' ((sentIf_mark c m').symm.trans mark))
  · intro hp
    have all := List.all_eq_true.1 (pend hp).2.2 n (by simp [records])
    simp [unsent] at all
  · intro runs
    simp only [NoticeQueue.settle] at runs ⊢
    split at runs
    · next on =>
      simp only [Bool.and_eq_true, bne_iff_ne] at on
      exact on.2
    · exact timer runs

end

/-! ## What the parts of a step keep -/

/-- The Notice Queue's invariant with the transmitter of the same state. -/
abbrev NoticesInv (s : State) : Prop := NoticesOk s.notices s.link.tx

section
variable {s t : State}

theorem noticesInv_of_same (h : NoticesInv s) (notices : t.notices = s.notices) (tx : t.link.tx = s.link.tx) :
    NoticesInv t := by
  rw [NoticesInv, notices, tx]
  exact h

theorem State.awaitTest_tx (s : State) (ev : AwaitEvent) : (s.awaitTest ev).link.tx = s.link.tx := by
  rw [State.awaitTest_link]

theorem noticesInv_awaitTest (h : NoticesInv s) (ev : AwaitEvent) : NoticesInv (s.awaitTest ev) :=
  noticesInv_of_same h (State.awaitTest_notices _ _) (State.awaitTest_tx _ _)

theorem noticesInv_raise (h : NoticesInv s) {b : NoticeBody} (ordinary : b.isOrdinary = true) : NoticesInv (s.raise b) :=
  noticesOk_raise h _ ordinary

theorem noticesInv_update (h : NoticesInv s) (u : Update s t) : NoticesInv t := by
  cases u with
  | raise b ordinary => exact noticesInv_raise h ordinary
  | await ev => exact noticesInv_awaitTest h ev
  | act | take | agenda | rule | queue => exact noticesInv_of_same h rfl rfl

theorem noticesInv_updates (h : NoticesInv s) (u : Updates s t) : NoticesInv t := u.keep noticesInv_update h

theorem noticesInv_enterHold (h : NoticesInv s) (r : HoldReasons) : NoticesInv (s.enterHold r) := by
  unfold State.enterHold
  refine noticesInv_raise (noticesInv_of_same h ?_ ?_) rfl
  · dsimp only
    split <;> rfl
  · dsimp only
    split <;> rfl

theorem noticesInv_leaveHold (h : NoticesInv s) : NoticesInv s.leaveHold := by
  unfold State.leaveHold
  refine noticesInv_awaitTest (noticesInv_raise (noticesInv_of_same h ?_ ?_) rfl) _
  · dsimp only
    split <;> rfl
  · dsimp only
    split <;> rfl

theorem noticesInv_changeReasons (h : NoticesInv s) (r : HoldReasons) : NoticesInv (s.changeReasons r) := by
  rcases s.changeReasons_cases r with ⟨-, -, e⟩ | ⟨-, e⟩ | e | ⟨-, -, e⟩ <;> rw [e]
  · exact noticesInv_enterHold h r
  · exact noticesInv_leaveHold h
  · exact h
  · exact noticesInv_of_same h rfl rfl

theorem noticesInv_setTimebase (h : NoticesInv s) (p n : Nat) (g : Bool) : NoticesInv (s.setTimebase p n g) := by
  obtain ⟨tb, reports⟩ := s.setTimebase_updates p n g
  have set : NoticesInv { s with timebase := tb } := noticesInv_of_same h rfl rfl
  exact noticesInv_updates set reports

theorem noticesInv_effect (h : NoticesInv s) (e : Effect s t) : NoticesInv t := by
  cases e with
  | unchanged => exact h
  | start => exact noticesInv_of_same h (State.enterStarted_notices _) (congrArg _ (State.enterStarted_link _))
  | startZero =>
    refine noticesInv_of_same h ?_ ?_
    · rw [State.enterStarted_notices, State.zeroTime_notices]
    · rw [State.enterStarted_link, State.zeroTime, State.awaitTest_link]
  | stop => exact noticesInv_of_same h (State.stopTime_notices _) (congrArg _ (State.stopTime_link _))
  | setTimebase p n g => exact noticesInv_setTimebase h p n g
  | reasons r => exact noticesInv_changeReasons h r
  | reconfigure i m =>
    exact noticesInv_of_same (noticesInv_updates h (s.removeLineEntries_updates i)) rfl rfl
  | release p => exact noticesInv_updates h (s.releaseThrough_updates p)
  | schedule batch => exact noticesInv_updates h (.foldl State.carryOut_updates batch s)
  | cancel e complete => exact noticesInv_updates h (s.cancelEntry_updates e complete)
  | cancelLine i => exact noticesInv_updates h (s.removeLineEntries_updates i)
  | clearRule k => exact noticesInv_updates h (s.clearRule_updates k)
  | acknowledge p n held sent => exact noticesOk_acknowledge h held sent _
  | configure mask interval => exact noticesOk_configure h mask interval
  | present | clearCounters | writeSlot | clearPattern | read | watermark | rule => exact noticesInv_of_same h rfl rfl

/-- What the sources offer: a first sending is that of the oldest UNSENT record (R149, R175). -/
theorem State.offered_firstSending {c : NoticeContent} (h : s.offered = some (.firstSending c)) :
    ∃ n, s.notices.records.find? (!·.sent) = some n ∧ n.content = c := by
  unfold State.offered at h
  cases hr : s.link.replySlot with
  | some f => simp [hr] at h
  | none =>
    cases hd : s.link.deferredSlot with
    | some f => simp [hr, hd] at h
    | none =>
      cases hf : s.notices.records.find? (!·.sent) with
      | some n =>
        simp only [hr, hd, hf, Option.some.injEq, TxFrame.firstSending.injEq] at h
        exact ⟨n, rfl, h⟩
      | none => cases hm : s.notices.records.find? (·.mark) <;> simp [hr, hd, hf, hm] at h

theorem noticesInv_transmit (h : NoticesInv s) : NoticesInv s.transmit := by
  by_cases idle : s.link.tx = .idle
  · cases ho : s.offered with
    | none => rwa [State.transmit_none ho]
    | some f =>
      rw [State.transmit_idle idle ho]
      cases f with
      | reply f => exact noticesOk_tx h rfl
      | deferredReply f => exact noticesOk_tx h rfl
      | firstSending c =>
        obtain ⟨n, found, rfl⟩ := State.offered_firstSending ho
        obtain ⟨records, marks, timer⟩ := noticesOk_iff.1 h
        refine noticesOk_iff.2 ⟨?_, marks, timer⟩
        obtain ⟨len, numbers, few, full, bodies, order, lost, pend, -⟩ := records
        exact ⟨len, numbers, few, full, bodies, order, lost, pend,
          (firstSendingOk_some (c := n.content) rfl).2 ⟨n, found, rfl, rfl, .inl rfl⟩⟩
      | repeatSending c => exact noticesOk_tx (noticesOk_unmarkFirst h) rfl
  · rwa [State.transmit_busy idle]

theorem noticesInv_noticeSent (h : NoticesInv s) : NoticesInv s.noticeSent := by
  unfold State.noticeSent
  split
  · next hs => exact noticesOk_settle h hs
  · exact h

theorem noticesInv_runTick (h : NoticesInv s) (pins : Half) : NoticesInv (s.runTick pins) := by
  obtain ⟨u, before, after⟩ := s.runTick_updates pins
  have counted : NoticesInv (s.countTick pins) := noticesInv_of_same h rfl rfl
  have sampled : NoticesInv u.sampleAll := noticesInv_of_same (noticesInv_updates counted before) rfl rfl
  exact noticesInv_updates sampled after

theorem State.awaitExpiry_tx (s : State) : s.awaitExpiry.link.tx = s.link.tx := by
  unfold State.awaitExpiry
  split <;> rfl

theorem noticesInv_move (h : NoticesInv s) (m : Move s t) : NoticesInv t := by
  cases m with
  | effect e => exact noticesInv_effect h e
  | tick pins => exact noticesInv_runTick h pins
  | transmit => exact noticesInv_transmit h
  | noticeSent => exact noticesInv_noticeSent h
  | replyDone | deferredDone | endFrame => exact noticesOk_tx h rfl
  | repeatExpiry runs => exact noticesOk_expire h runs
  | awaitExpiry => exact noticesInv_of_same h (State.awaitExpiry_notices _) (State.awaitExpiry_tx _)
  | period =>
    refine noticesOk_timer h fun runs => (noticesOk_iff.1 h).2.2 ?_
    simpa using runs
  | outside | receiver | counters | store | reply | record | restart | defer => exact noticesInv_of_same h rfl rfl

theorem noticesInv_atReset (r : AtReset s) : NoticesInv s := by
  have idle : s.link.tx = .idle := by rw [r.link]; rfl
  rw [NoticesInv, idle]
  rcases r.notices with e | ⟨cause, e⟩ <;> rw [e]
  · decide
  · cases cause <;> decide

/-- Every step keeps the Notice Queue's records, counts and first sending. -/
theorem step_keeps_noticesOk (hs : NoticesOk s.notices s.link.tx) (h : step s = .next t) :
    NoticesOk t.notices t.link.tx :=
  step_keeps (P := NoticesInv) noticesInv_move noticesInv_atReset hs h

end

end Sys2Proof.Machine
end

section
/-! The Control Link's invariant, kept by every step (R165, R168, R169, R171 to R175, R187, R190). -/

namespace Sys2Proof.Machine

open Sys2Proof.Safety

/-! ## The link -/

section
variable {l : Link}

theorem deferredOk_none (h : l.deferred = none) :
    deferredOk l = true ↔ l.deferredSlot = none ∧ ∀ r ∈ l.lastTaken, r.state ≠ .deferred := by
  unfold deferredOk
  rw [h]
  simp [Option.all_eq_true]

theorem deferredOk_some {d : Deferred} (h : l.deferred = some d) :
    deferredOk l = true ↔ (1 ≤ d.timeoutMs ∧ d.timeoutMs ≤ 60000) ∧ d.timer.isNone = l.deferredSlot.isSome
      ∧ (∀ f ∈ l.deferredSlot, f.seq = d.seq ∧ f.kind = 0x03)
      ∧ ∀ r ∈ l.lastTaken, r.state = .deferred → r.seq = d.seq ∧ r.check = d.check := by
  unfold deferredOk
  rw [h]
  simp [Option.all_eq_true, and_assoc, imp_iff_not_or]

/-- The frame in transmission stands in its slot (R172 to R175). -/
theorem sendingOk_iff : sendingOk l = true ↔ (∀ f, l.tx = .sending (.reply f) → l.replySlot = some f)
    ∧ ∀ f, l.tx = .sending (.deferredReply f) → l.deferredSlot = some f := by
  unfold sendingOk
  cases l.tx with
  | idle => simp
  | sending f => cases f <;> simp

theorem linkOk_reset (rate : Rate) : LinkOk (.reset rate) := by cases rate <;> decide

/-- The deferred request is answered while its await timer runs (R187). -/
theorem linkOk_answerDeferred {s : State} (h : LinkOk s.link) {d : Deferred} (awaiting : s.link.awaiting = some d)
    (code : ResultCode) : LinkOk (s.answerDeferred d code).link := by
  obtain ⟨hd, runs⟩ := Option.filter_eq_some_iff.1 awaiting
  obtain ⟨counters, receiver, sending, deferred, waits, restarts, fits⟩ := h
  obtain ⟨range, slot, -, own⟩ := (deferredOk_some hd).1 deferred
  have free : s.link.deferredSlot = none := by
    cases ht : d.timer with
    | none => simp [ht] at runs
    | some n => simpa [ht] using slot
  refine ⟨counters, receiver, ?_, ?_, waits, restarts, fits⟩
  · rw [sendingOk_iff] at sending ⊢
    refine ⟨sending.1, fun f hf => ?_⟩
    have := sending.2 f hf
    rw [free] at this
    cases this
  · rw [deferredOk_some rfl]
    refine ⟨range, rfl, ?_, own⟩
    rintro f ⟨⟩
    exact ⟨rfl, rfl⟩

/-- A transmitter that is IDLE or sends a notice holds no slot. -/
theorem linkOk_tx (h : LinkOk l) {tx : Transmitter} (reply : ∀ f, tx = .sending (.reply f) → l.replySlot = some f)
    (deferredReply : ∀ f, tx = .sending (.deferredReply f) → l.deferredSlot = some f) : LinkOk { l with tx := tx } := by
  obtain ⟨counters, receiver, -, deferred, waits, restarts, fits⟩ := h
  exact ⟨counters, receiver, sendingOk_iff.2 ⟨reply, deferredReply⟩, deferred, waits, restarts, fits⟩

theorem linkOk_idle (h : LinkOk l) : LinkOk { l with tx := .idle } := linkOk_tx h (by simp) (by simp)

theorem linkOk_receiver (h : LinkOk l) {rx : Receiver} (ok : receiverOk l.rx = true → receiverOk rx = true) :
    LinkOk { l with rx := rx } := by
  obtain ⟨counters, receiver, rest⟩ := h
  exact ⟨counters, ok receiver, rest⟩

theorem linkOk_counters (h : LinkOk l) {c : LinkCounters} (ok : CountersOk l.counters → CountersOk c) :
    LinkOk { l with counters := c } := ⟨ok h.1, h.2⟩

theorem linkOk_store (h : LinkOk l) {f : RequestFrame} (occupied : l.replySlot.isSome = true)
    (short : receiverOk l.rx = true → f.payload.length ≤ 240) : LinkOk { l with waiting := some f } := by
  obtain ⟨counters, receiver, sending, deferred, -, restarts, -⟩ := h
  exact ⟨counters, receiver, sending, deferred, fun _ => occupied, restarts, by rintro _ ⟨⟩; exact short receiver⟩

theorem linkOk_reply (h : LinkOk l) {f : ReplyFrame} (free : l.replySlot = none) :
    LinkOk { l with replySlot := some f } := by
  obtain ⟨counters, receiver, sending, deferred, -, -, fits⟩ := h
  refine ⟨counters, receiver, ?_, deferred, fun _ => rfl, fun _ => rfl, fits⟩
  rw [sendingOk_iff] at sending ⊢
  refine ⟨fun g hg => ?_, sending.2⟩
  have := sending.1 g hg
  rw [free] at this
  cases this

theorem linkOk_record (h : LinkOk l) {r : LastTaken}
    (own : r.state = .deferred → ∃ d ∈ l.deferred, r.seq = d.seq ∧ r.check = d.check) :
    LinkOk { l with lastTaken := some r } := by
  obtain ⟨counters, receiver, sending, deferred, rest⟩ := h
  refine ⟨counters, receiver, sending, ?_, rest⟩
  cases hd : l.deferred with
  | none =>
    refine (deferredOk_none (l := { l with lastTaken := some r, deferred := none }) rfl).2
      ⟨((deferredOk_none hd).1 deferred).1, ?_⟩
    rintro _ ⟨⟩ waits
    obtain ⟨d, some, -⟩ := own waits
    rw [hd] at some
    cases some
  | some d =>
    obtain ⟨range, slot, frame, -⟩ := (deferredOk_some hd).1 deferred
    refine (deferredOk_some (l := { l with lastTaken := some r, deferred := some d }) rfl).2 ⟨range, slot, frame, ?_⟩
    rintro _ ⟨⟩ waits
    obtain ⟨d', some, same⟩ := own waits
    rw [hd] at some
    cases some
    exact same

theorem linkOk_restart (h : LinkOk l) (occupied : l.replySlot.isSome = true) :
    LinkOk { l with restartPending := true } := by
  obtain ⟨counters, receiver, sending, deferred, waits, -, fits⟩ := h
  exact ⟨counters, receiver, sending, deferred, waits, fun _ => occupied, fits⟩

/-- A request becomes the deferred one, where there is none (R173, R184). -/
theorem linkOk_defer {s : State} (h : LinkOk s.link) (seq : Byte) (check : Half) (c : AwaitCondition) {timeout : Nat}
    (range : 1 ≤ timeout ∧ timeout ≤ 60000) (free : s.link.deferred = none) :
    LinkOk (s.defer seq check c timeout).link := by
  obtain ⟨counters, receiver, sending, deferred, rest⟩ := h
  obtain ⟨slot, own⟩ := (deferredOk_none free).1 deferred
  refine ⟨counters, receiver, sending, (deferredOk_some rfl).2 ⟨range, by simp [State.defer, slot], ?_, ?_⟩, rest⟩
  · intro f hf
    simp [State.defer, slot] at hf
  · exact fun r hr waits => absurd waits (own r hr)

theorem linkOk_replyDone (h : LinkOk l) (stays : l.restartPending = false) :
    LinkOk { l with replySlot := none, waiting := none, tx := .idle } := by
  obtain ⟨counters, receiver, -, deferred, -, -, -⟩ := h
  exact ⟨counters, receiver, rfl, deferred, by simp, fun r => absurd (stays.symm.trans r) (by simp), by rintro _ ⟨⟩⟩

/-- A deferred reply's end: no request is deferred, and its record is COMPLETED (R171, R173). -/
theorem linkOk_finishDeferred (h : LinkOk l) (f : ReplyFrame) : LinkOk (l.finishDeferred f) := by
  obtain ⟨counters, receiver, -, deferred, rest⟩ := h
  refine ⟨counters, receiver, rfl, (deferredOk_none rfl).2 ⟨rfl, fun r hr waits => ?_⟩, rest⟩
  unfold Link.finishDeferred at hr
  cases hd : l.deferred with
  | none =>
    simp only [hd] at hr
    exact ((deferredOk_none hd).1 deferred).2 r hr waits
  | some d =>
    simp only [hd] at hr
    obtain ⟨r', hr', rfl⟩ := Option.map_eq_some_iff.1 hr
    have own := ((deferredOk_some hd).1 deferred).2.2.2 r' hr'
    unfold LastTaken.finish at waits
    split at waits
    · cases waits
    · next other => exact other ⟨(own waits).1, (own waits).2, waits⟩

/-- A period runs the await timer and changes nothing else of the deferred request. -/
theorem linkOk_countPeriod (h : LinkOk l) : LinkOk l.countPeriod := by
  obtain ⟨counters, receiver, sending, deferred, rest⟩ := h
  refine ⟨counters, receiver, sending, ?_, rest⟩
  cases hd : l.deferred with
  | none =>
    exact (deferredOk_none (by simp [Link.countPeriod, hd])).2 ((deferredOk_none hd).1 deferred)
  | some d =>
    have counted : l.countPeriod.deferred = some { d with timer := d.timer.map (· + 1) } := by
      simp [Link.countPeriod, hd]
    obtain ⟨range, slot, frame, own⟩ := (deferredOk_some hd).1 deferred
    exact (deferredOk_some counted).2 ⟨range, by rw [Option.isNone_map, slot]; rfl, frame, own⟩

end

/-! ## What the parts of a step keep -/

section
variable {s t : State}

theorem linkOk_awaitTest (h : LinkOk s.link) (ev : AwaitEvent) : LinkOk (s.awaitTest ev).link := by
  rcases s.awaitTest_cases ev with e | ⟨d, awaiting, -, -, e⟩ <;> rw [e]
  · exact h
  · exact linkOk_answerDeferred h awaiting .ok

theorem linkOk_awaitExpiry (h : LinkOk s.link) : LinkOk s.awaitExpiry.link := by
  unfold State.awaitExpiry
  split
  · next awaiting => exact linkOk_answerDeferred h awaiting .timeout
  · exact h

theorem linkOk_update (h : LinkOk s.link) (u : Update s t) : LinkOk t.link := by
  cases u with
  | await ev => exact linkOk_awaitTest h ev
  | raise | act | take | agenda | rule | queue => exact h

theorem linkOk_updates (h : LinkOk s.link) (u : Updates s t) : LinkOk t.link :=
  u.keep (P := fun s => LinkOk s.link) linkOk_update h

theorem linkOk_changeReasons (h : LinkOk s.link) (r : HoldReasons) : LinkOk (s.changeReasons r).link := by
  rcases s.changeReasons_cases r with ⟨-, -, e⟩ | ⟨-, e⟩ | e | ⟨-, -, e⟩ <;> rw [e]
  · rwa [State.enterHold_link]
  · unfold State.leaveHold
    refine linkOk_awaitTest ?_ _
    rw [State.raise_link]
    dsimp only
    split <;> exact h
  · exact h
  · exact h

theorem countersOk_zero : CountersOk .zero := by decide

theorem linkOk_effect (h : LinkOk s.link) (e : Effect s t) : LinkOk t.link := by
  cases e with
  | clearCounters => exact linkOk_counters h fun _ => countersOk_zero
  | startZero =>
    rw [State.enterStarted_link]
    exact linkOk_awaitTest (s := { s with timebase := s.timebase.zeroed }) h _
  | reasons r => exact linkOk_changeReasons h r
  | reconfigure i m =>
    have removed : LinkOk (s.removeLineEntries i).link := linkOk_updates h (s.removeLineEntries_updates i)
    exact removed
  | release p => exact linkOk_updates h (s.releaseThrough_updates p)
  | schedule batch => exact linkOk_updates h (.foldl State.carryOut_updates batch s)
  | cancel e complete => exact linkOk_updates h (s.cancelEntry_updates e complete)
  | cancelLine i => exact linkOk_updates h (s.removeLineEntries_updates i)
  | clearRule k => exact linkOk_updates h (s.clearRule_updates k)
  | start => rwa [State.enterStarted_link]
  | stop => rwa [State.stopTime_link]
  | setTimebase => rwa [State.setTimebase_link]
  | unchanged | present | writeSlot | clearPattern | read | watermark | rule | acknowledge | configure => exact h

/-- A reply is offered from its slot (R175). -/
theorem State.offered_reply {f : ReplyFrame} (h : s.offered = some (.reply f)) : s.link.replySlot = some f := by
  unfold State.offered at h
  split at h <;> cases h
  assumption

theorem State.offered_deferredReply {f : ReplyFrame} (h : s.offered = some (.deferredReply f)) :
    s.link.deferredSlot = some f := by
  unfold State.offered at h
  split at h <;> cases h
  assumption

theorem linkOk_transmit (h : LinkOk s.link) : LinkOk s.transmit.link := by
  by_cases idle : s.link.tx = .idle
  · cases ho : s.offered with
    | none => rwa [State.transmit_none ho]
    | some f =>
      rw [State.transmit_idle idle ho]
      cases f with
      | reply f => exact linkOk_tx h (by rintro _ ⟨⟩; exact State.offered_reply ho) (by simp)
      | deferredReply f => exact linkOk_tx h (by simp) (by rintro _ ⟨⟩; exact State.offered_deferredReply ho)
      | firstSending c => exact linkOk_tx h (by simp) (by simp)
      | repeatSending c => exact linkOk_tx h (by simp) (by simp)
  · rwa [State.transmit_busy idle]

theorem linkOk_runTick (h : LinkOk s.link) (pins : Half) : LinkOk (s.runTick pins).link := by
  obtain ⟨u, before, after⟩ := s.runTick_updates pins
  have counted : LinkOk (s.countTick pins).link := h
  have acted : LinkOk u.link := linkOk_updates counted before
  have sampled : LinkOk u.sampleAll.link := acted
  exact linkOk_updates sampled after

theorem linkOk_move (h : LinkOk s.link) (m : Move s t) : LinkOk t.link := by
  cases m with
  | effect e => exact linkOk_effect h e
  | tick pins => exact linkOk_runTick h pins
  | transmit => exact linkOk_transmit h
  | receiver rx ok => exact linkOk_receiver h ok
  | counters c ok => exact linkOk_counters h ok
  | store f occupied fits => exact linkOk_store h occupied fits
  | reply f free => exact linkOk_reply h free
  | record r own => exact linkOk_record h own
  | restart occupied => exact linkOk_restart h occupied
  | defer seq check c timeout range free => exact linkOk_defer h seq check c range free
  | replyDone stays => exact linkOk_replyDone h stays
  | deferredDone f => exact linkOk_finishDeferred h f
  | endFrame => exact linkOk_idle h
  | noticeSent =>
    unfold State.noticeSent
    split
    · exact linkOk_idle h
    · exact h
  | awaitExpiry => exact linkOk_awaitExpiry h
  | period => exact linkOk_countPeriod h
  | outside | repeatExpiry => exact h

/-- Every step keeps the Control Link's buffers, slots, record and receiver. -/
theorem step_keeps_linkOk (hs : LinkOk s.link) (h : step s = .next t) : LinkOk t.link :=
  step_keeps (P := fun s => LinkOk s.link) linkOk_move (fun r => r.link ▸ linkOk_reset _) hs h

end

end Sys2Proof.Machine
end

section
/-! The Edge Agenda's invariant under the writes of the agenda: each primitive write keeps it (R76 to R80, R92). -/

namespace Sys2Proof.Machine

open Sys2Proof.Safety

/-- What an entry held satisfies besides its due (R76, R77, R79, R99, R101). -/
structure EntryFits (s : State) (e : AgendaEntry) : Prop where
  drive : (s.line e.line).isDrive = true
  action : actionOk e.action = true
  lead : e.action.isPulse = false → e.phase = .lead
  origin : originOk e = true
  owner : ownerOk s e = true

/-- The agenda's invariant while the entries `due` have still to expire at this tick: these alone may be due. -/
structure AgendaDuring (s : State) (due : List AgendaEntry) : Prop where
  length : s.agenda.entries.length ≤ 64
  tags : (s.agenda.entries.map (·.tag)).Nodup
  sorted : sortedBy s.timebase.time s.agenda.entries
  fits : ∀ e ∈ s.agenda.entries, EntryFits s e
  future : ∀ e ∈ s.agenda.entries, classify e.due s.timebase.time = .future ∨ e ∈ due
  recorded : s.agenda.history.length ≤ 16
  distinct : s.agenda.history.Nodup

/-- Between two ticks no entry is due. -/
theorem agendaOk_iff {s : State} : AgendaOk s ↔ AgendaDuring s [] := by
  constructor
  · rintro ⟨length, tags, sorted, entries, recorded, distinct⟩
    refine ⟨length, tags, sorted, fun e he => ?_, fun e he => .inl (entries e he).1, recorded, distinct⟩
    obtain ⟨-, drive, action, lead, origin, owner⟩ := entries e he
    exact ⟨drive, action, lead, origin, owner⟩
  · rintro ⟨length, tags, sorted, fits, future, recorded, distinct⟩
    refine ⟨length, tags, sorted, fun e he => ?_, recorded, distinct⟩
    obtain ⟨drive, action, lead, origin, owner⟩ := fits e he
    exact ⟨(future e he).resolve_right (by simp), drive, action, lead, origin, owner⟩

/-! ## Times -/

/-- A pulse's trail lies in the future: its width is at least 1 and below 2^24 (R85, R89). -/
theorem classify_after {w : Span} (h : w ≠ 0) (now : Stamp) : classify (after now w) now = .future := by
  have width : distance (after now w) now = w.toNat := by
    rw [distance, after, BitVec.add_comm, BitVec.add_sub_cancel, BitVec.toNat_setWidth]
    have := w.isLt
    omega
  have positive : w.toNat ≠ 0 := fun h0 => h (BitVec.eq_of_toNat_eq h0)
  have := w.isLt
  rw [classify_future_iff, width]
  omega

/-- A tick brings a future time one nearer. -/
theorem distance_tick {x now : Stamp} (h : classify x now = .future) : distance x (now + 1) + 1 = distance x now := by
  have near := ((classify_future_iff x now).1 h).1
  have := x.isLt
  have := now.isLt
  rw [distance_eq] at near ⊢
  rw [distance_eq, BitVec.toNat_add, show (1 : Stamp).toNat = 1 from rfl]
  omega

/-- After a tick a time that was in the future still is, or it has come. -/
theorem classify_tick {x now : Stamp} (h : classify x now = .future) :
    classify x (now + 1) = .future ∨ x = now + 1 := by
  have nearer := distance_tick h
  obtain ⟨-, near⟩ := (classify_future_iff x now).1 h
  by_cases zero : distance x (now + 1) = 0
  · have := x.isLt
    have := (now + 1).isLt
    rw [distance_eq] at zero
    exact .inr (BitVec.eq_of_toNat_eq (by omega))
  · exact .inl ((classify_future_iff _ _).2 (by omega))

/-! ## The fired history -/

theorem recordTag_length (tag : Half) (history : List Half) : (recordTag tag history).length ≤ 16 := by
  simp only [recordTag, Config.historyCapacity, List.length_cons, List.length_take]
  omega

theorem recordTag_nodup (tag : Half) {history : List Half} (h : history.Nodup) : (recordTag tag history).Nodup := by
  refine List.nodup_cons.2 ⟨fun held => ?_, (h.filter _).sublist (List.take_sublist _ _)⟩
  simpa using List.mem_of_mem_take held

/-! ## Writes of the agenda -/

section
variable {s t : State} {due : List AgendaEntry}

theorem EntryFits.of_same {e : AgendaEntry} (h : EntryFits s e)
    (drive : (s.line e.line).isDrive = true → (t.line e.line).isDrive = true)
    (rules : ∀ k, (s.rule k).isSome = true → (t.rule k).isSome = true) : EntryFits t e := by
  obtain ⟨hd, ha, hl, ho, hw⟩ := h
  refine ⟨drive hd, ha, hl, ho, ?_⟩
  unfold ownerOk at hw ⊢
  split at hw
  · rfl
  · exact rules _ hw

/-- Entries of the same agenda, all of which fit, and no new record. -/
theorem AgendaDuring.of_sublist (h : AgendaDuring s due) (entries : t.agenda.entries.Sublist s.agenda.entries)
    (history : t.agenda.history = s.agenda.history) (time : t.timebase.time = s.timebase.time)
    (fits : ∀ e ∈ t.agenda.entries, EntryFits s e → EntryFits t e) : AgendaDuring t due where
  length := entries.length_le.trans h.length
  tags := h.tags.sublist (entries.map _)
  sorted := by rw [time]; exact h.sorted.sublist entries
  fits e he := fits e he (h.fits e (entries.subset he))
  future e he := by rw [time]; exact h.future e (entries.subset he)
  recorded := by rw [history]; exact h.recorded
  distinct := by rw [history]; exact h.distinct

/-- What leaves the agenda, the time, the modes and the EMPTY rules as they are. -/
theorem AgendaDuring.of_same (h : AgendaDuring s due) (agenda : t.agenda = s.agenda)
    (time : t.timebase.time = s.timebase.time) (mode : ∀ i, (t.line i).mode = (s.line i).mode)
    (rules : ∀ k, (s.rule k).isSome = true → (t.rule k).isSome = true) : AgendaDuring t due :=
  h.of_sublist (by rw [agenda]) (by rw [agenda]) time fun e _ fit =>
    fit.of_same (fun drive => by rwa [Line.isDrive, mode]) rules

/-- Writes that leave the agenda and the rules alone. -/
theorem AgendaDuring.of_updates (h : AgendaDuring s due) (u : Updates s t) (agenda : t.agenda = s.agenda)
    (rules : t.rules = s.rules) : AgendaDuring t due :=
  h.of_same agenda (by rw [u.timebase]) u.mode fun k hk => by rwa [State.rule, rules]

theorem AgendaDuring.actOn (h : AgendaDuring s due) (i : LineId) (a : LevelAction) : AgendaDuring (s.actOn i a) due :=
  h.of_updates (Update.act i a).one rfl rfl

theorem AgendaDuring.edgeDone (h : AgendaDuring s due) (e : AgendaEntry) (p : Phase) :
    AgendaDuring (s.edgeDone e p) due := h.of_updates (s.edgeDone_updates e p) (by simp) (by simp)

theorem AgendaDuring.awaitTest (h : AgendaDuring s due) (ev : AwaitEvent) : AgendaDuring (s.awaitTest ev) due :=
  h.of_updates (Update.await ev).one (by simp) (by simp)

theorem AgendaDuring.removeEntry (h : AgendaDuring s due) (tag : Half) : AgendaDuring (s.removeEntry tag) due :=
  h.of_sublist List.filter_sublist rfl rfl fun _ _ fit => fit.of_same id fun _ => id

theorem AgendaDuring.dropEntry (h : AgendaDuring s due) (e : AgendaEntry) : AgendaDuring (s.dropEntry e) due :=
  (h.removeEntry e.tag).awaitTest _

theorem AgendaDuring.removeLineEntries (h : AgendaDuring s due) (i : LineId) :
    AgendaDuring (s.removeLineEntries i) due := by
  have removed : AgendaDuring { s with agenda := s.agenda.removeLine i } due :=
    h.of_sublist List.filter_sublist rfl rfl fun _ _ fit => fit.of_same id fun _ => id
  unfold State.removeLineEntries
  dsimp only
  split
  · exact removed
  · exact removed.awaitTest _

theorem AgendaDuring.recordFired (h : AgendaDuring s due) (tag : Half) : AgendaDuring (s.recordFired tag) due where
  length := h.length
  tags := h.tags
  sorted := h.sorted
  fits e he := (h.fits e he).of_same id fun _ => id
  future := h.future
  recorded := recordTag_length _ _
  distinct := recordTag_nodup _ h.distinct

/-- An insertion asks for a free entry, a fresh tag and a due in the future (R78 to R80). -/
theorem AgendaDuring.insertEntry (h : AgendaDuring s due) {e : AgendaEntry} (free : s.agenda.entries.length < 64)
    (fresh : ∀ x ∈ s.agenda.entries, x.tag ≠ e.tag) (fits : EntryFits s e)
    (future : classify e.due s.timebase.time = .future) : AgendaDuring (s.insertEntry e) due where
  length := by
    simp only [State.insertEntry_agenda, Agenda.insert, insertByDistance_length]
    omega
  tags := by
    have perm := (insertByDistance_perm s.timebase.time e s.agenda.entries).map (·.tag)
    refine perm.nodup_iff.2 (List.nodup_cons.2 ⟨fun held => ?_, h.tags⟩)
    obtain ⟨x, hx, same⟩ := List.mem_map.1 held
    exact fresh x hx same
  sorted := insertByDistance_sorted _ _ _ h.sorted
  fits x hx := by
    refine EntryFits.of_same (s := s) ?_ id fun _ => id
    rcases (mem_insertByDistance _ _ _ _).1 hx with rfl | hx
    · exact fits
    · exact h.fits x hx
  future x hx := by
    rcases (mem_insertByDistance _ _ _ _).1 hx with rfl | hx
    · exact .inl future
    · exact h.future x hx
  recorded := h.recorded
  distinct := h.distinct

/-- An entry removed is not due any more. -/
theorem AgendaDuring.discharge {e : AgendaEntry} (h : AgendaDuring s (e :: due)) (gone : e ∉ s.agenda.entries) :
    AgendaDuring s due :=
  { h with
    future := fun x hx => (h.future x hx).imp_right fun held =>
      (List.mem_cons.1 held).resolve_left fun same => by rw [same] at hx; exact gone hx }

/-- A rule written that is not EMPTY. -/
theorem AgendaDuring.setRule (h : AgendaDuring s due) (k : RuleId) (r : FollowRule) :
    AgendaDuring (s.setRule k (some r)) due :=
  h.of_same rfl rfl (fun _ => rfl) fun j hj => by
    rw [State.rule_setRule]
    split
    · rfl
    · exact hj

/-- A rule emptied that has no entry (R101). -/
theorem AgendaDuring.emptyRule (h : AgendaDuring s due) {k : RuleId} (none : ∀ e ∈ s.agenda.entries, e.tag ≠ followTag k) :
    AgendaDuring (s.setRule k .none) due := by
  refine h.of_sublist (.refl _) rfl rfl fun e he ⟨drive, action, lead, origin, owner⟩ =>
    ⟨drive, action, lead, origin, ?_⟩
  unfold originOk at origin
  unfold ownerOk at owner ⊢
  split at owner
  · rfl
  · next j hj =>
    rw [hj] at origin
    have tag : e.tag = followTag j := by simpa using origin
    rw [State.rule_setRule, if_neg fun same => none e he (by rw [tag, same])]
    exact owner

/-- A room freed by the removal of an entry held. -/
theorem removeEntry_length {e : AgendaEntry} (h : AgendaDuring s due) (held : e ∈ s.agenda.entries) :
    (s.removeEntry e.tag).agenda.entries.length < 64 := by
  refine Nat.lt_of_lt_of_le ?_ h.length
  exact List.length_filter_lt_length_iff_exists.2 ⟨e, held, by simp⟩

end

end Sys2Proof.Machine
end

section
/-! Every step keeps the Edge Agenda and the Follow Table: expiries, orders, matches and requests as writes of the
agenda (R76 to R80, R92, R99 to R101, R122, R123, R136). -/

namespace Sys2Proof.Machine

open Sys2Proof.Safety

section
variable {s t : State} {due : List AgendaEntry}

/-! ## Expiries (R87 to R90) -/

/-- The trail of a pulse that fits, fits. -/
theorem EntryFits.trailAt {e : AgendaEntry} (h : EntryFits s e) (pulse : e.action.isPulse = true) (now : Stamp) (w : Span) :
    EntryFits s (e.trailAt now w) where
  drive := h.drive
  action := h.action
  lead single := absurd pulse (by rw [show e.action.isPulse = false from single]; simp)
  origin := h.origin
  owner := h.owner

theorem width_ne_zero {e : AgendaEntry} {l : Level} {w : Span} (h : EntryFits s e) (pulse : e.action = .pulse l w) :
    w ≠ 0 := by
  have := h.action
  rw [pulse] at this
  simpa [actionOk] using this

/-- An entry that gave its last edge is gone and no more due. -/
theorem AgendaDuring.fired {e : AgendaEntry} (h : AgendaDuring s (e :: due)) (a : LevelAction) (p : Phase) :
    AgendaDuring ((((s.actOn e.line a).recordFired e.tag).edgeDone e p).dropEntry e) due := by
  refine ((((h.actOn e.line a).recordFired e.tag).edgeDone e p).dropEntry e).discharge ?_
  simp [State.dropEntry]

theorem AgendaDuring.expireLead {e : AgendaEntry} (h : AgendaDuring s (e :: due)) (held : e ∈ s.agenda.entries) {l : Level}
    {w : Span} (pulse : e.action = .pulse l w) : AgendaDuring (s.expireLead e w) due := by
  have acted := h.actOn e.line e.action.leadAction
  have removed := (acted.removeEntry e.tag).discharge (by simp)
  have fits : EntryFits s e := h.fits e held
  have trail : EntryFits s (e.trailAt s.timebase.time w) := fits.trailAt (by rw [pulse]; rfl) _ _
  have mode : (((s.actOn e.line e.action.leadAction).removeEntry e.tag).line e.line).isDrive = (s.line e.line).isDrive :=
    (Update.act e.line e.action.leadAction).one.isDrive e.line
  have inserted := removed.insertEntry (e := e.trailAt s.timebase.time w) (removeEntry_length acted held)
    (fun x hx => ((mem_remove _ _ _).1 hx).2) (trail.of_same (fun drive => mode.trans drive) fun _ => id)
    (classify_after (width_ne_zero fits pulse) _)
  exact inserted.edgeDone e .lead

theorem AgendaDuring.expire {e : AgendaEntry} (h : AgendaDuring s (e :: due)) (held : e ∈ s.agenda.entries) :
    AgendaDuring (s.expire e) due := by
  unfold State.expire
  split
  · exact h.fired _ _
  · next pulse _ => exact h.expireLead held pulse
  · exact h.fired _ _

/-- An expiry leaves the entries with another tag alone. -/
theorem mem_expire {e x : AgendaEntry} (held : x ∈ s.agenda.entries) (other : x.tag ≠ e.tag) :
    x ∈ (s.expire e).agenda.entries := by
  unfold State.expire
  split
  · simp [State.expireSingle, State.dropEntry, Agenda.record, held, other]
  · simp [State.expireLead, Agenda.insert, held, other]
  · simp [State.expireTrail, State.dropEntry, Agenda.record, held, other]

/-- The expiries of a tick, with what each of them keeps besides. -/
theorem AgendaDuring.expireAll {P : State → Prop}
    (keeps : ∀ {s : State} {e : AgendaEntry} {due : List AgendaEntry}, AgendaDuring s (e :: due) →
      e ∈ s.agenda.entries → P s → P (s.expire e))
    (h : AgendaDuring s due) (held : ∀ e ∈ due, e ∈ s.agenda.entries) (tags : (due.map (·.tag)).Nodup) (hp : P s) :
    AgendaDuring (due.foldl State.expire s) [] ∧ P (due.foldl State.expire s) := by
  induction due generalizing s with
  | nil => exact ⟨h, hp⟩
  | cons e rest ih =>
    obtain ⟨first, others⟩ := List.forall_mem_cons.1 held
    obtain ⟨other, tags⟩ := List.nodup_cons.1 (List.map_cons ▸ tags)
    refine ih (h.expire first) (fun x hx => mem_expire (others x hx) fun same => other ?_) tags (keeps h first hp)
    exact List.mem_map.2 ⟨x, hx, same⟩

/-! ## The tick's counts (R3, R6) -/

theorem Timebase.advance_time (t : Timebase) : t.advance.time = t.time + 1 := by
  rw [Claims.advance_eq_ticked, Claims.ticked_time]

/-- After the tick's count the entries that were one away are due. -/
theorem AgendaDuring.countTick (h : AgendaDuring s []) (pins : Half) :
    AgendaDuring (s.countTick pins) (s.countTick pins).dueNow := by
  have time : (s.countTick pins).timebase.time = s.timebase.time + 1 := Timebase.advance_time _
  have future : ∀ e ∈ s.agenda.entries, classify e.due s.timebase.time = .future :=
    fun e he => (h.future e he).resolve_right (by simp)
  refine ⟨h.length, h.tags, ?_, fun e he => (h.fits e he).of_same id fun _ => id, fun e he => ?_, h.recorded, h.distinct⟩
  · rw [time]
    refine h.sorted.imp_of_mem fun {a b} ha hb near => ?_
    have := distance_tick (future a ha)
    have := distance_tick (future b hb)
    omega
  · rw [time]
    refine (classify_tick (future e he)).imp_right fun now => List.mem_filter.2 ⟨he, ?_⟩
    rw [time]
    exact beq_iff_eq.2 now

/-! ## Orders (R82 to R86) -/

/-- What SCHEDULE has checked of a batch before it carries it out (R83). -/
structure BatchFits (s : State) (batch : List Order) : Prop where
  host : ∀ o ∈ batch, o.tag.toNat < 0xF000
  tags : (batch.map (·.tag)).Nodup
  fresh : ∀ o ∈ batch, ∀ e ∈ s.agenda.entries, e.tag ≠ o.tag
  drive : ∀ o ∈ batch, (s.line o.line).isDrive = true
  action : ∀ o ∈ batch, actionOk o.action = true
  room : ∃ k, firstOverflow s.timebase.time k s.agenda.free batch = none

/-- Check 3 of R83. -/
theorem firstTagClash_none {k : Nat} {taken : List Half} {batch : List Order} (h : firstTagClash k taken batch = none) :
    (batch.map (·.tag)).Nodup ∧ ∀ o ∈ batch, o.tag ∉ taken := by
  induction batch generalizing k taken with
  | nil => simp
  | cons o rest ih =>
    unfold firstTagClash at h
    split at h
    · cases h
    · next free =>
      obtain ⟨tags, fresh⟩ := ih h
      simp only [List.mem_cons, not_or] at fresh
      refine ⟨List.nodup_cons.2 ⟨fun held => ?_, tags⟩, List.forall_mem_cons.2
        ⟨by simpa using free, fun p hp => (fresh p hp).2⟩⟩
      obtain ⟨p, hp, same⟩ := List.mem_map.1 held
      exact (fresh p hp).1 same

/-- The checks of R83 passed. -/
theorem batchFits_of_none {batch : List Order} (actions : ∀ o ∈ batch, actionOk o.action = true)
    (h : batchFault s batch = none) : BatchFits s batch := by
  simp only [batchFault, Option.orElse_eq_none, Option.map_eq_none_iff,
    List.findIdx?_eq_none_iff] at h
  obtain ⟨host, clash, drive, -, -, room⟩ := h
  obtain ⟨tags, fresh⟩ := firstTagClash_none clash
  refine ⟨fun o ho => ?_, tags, fun o ho e he same => ?_, fun o ho => ?_, actions, _, room⟩
  · simpa using host o ho
  · exact fresh o ho (List.mem_map.2 ⟨e, he, same⟩)
  · simpa using drive o ho

/-- The head of a batch has a free entry if it needs one, and the rest fits the entries that are left (R83). -/
theorem firstOverflow_cons {now : Stamp} {k free : Nat} {o : Order} {rest : List Order}
    (h : firstOverflow now k free (o :: rest) = none) :
    o.need now ≤ free ∧ firstOverflow now (k + 1) (free - o.need now) rest = none := by
  unfold firstOverflow at h
  split at h
  · cases h
  · next enough => exact ⟨Nat.le_of_not_lt enough, h⟩

/-- What one order leaves of the conditions on the others: it takes the entries it needs, under its own tag. -/
theorem BatchFits.rest {o : Order} {rest : List Order} (h : BatchFits s (o :: rest)) (u : Updates s t)
    (entries : ∀ e ∈ t.agenda.entries, e ∈ s.agenda.entries ∨ e.tag = o.tag)
    (free : t.agenda.free = s.agenda.free - o.need s.timebase.time) : BatchFits t rest := by
  obtain ⟨other, tags⟩ := List.nodup_cons.1 (List.map_cons ▸ h.tags)
  obtain ⟨k, room⟩ := h.room
  refine ⟨fun p hp => h.host p (.tail _ hp), tags, fun p hp e he => ?_, fun p hp => ?_,
    fun p hp => h.action p (.tail _ hp), k + 1, ?_⟩
  · rcases entries e he with held | own
    · exact h.fresh p (.tail _ hp) e held
    · exact fun same => other (List.mem_map.2 ⟨p, hp, by rw [← same, own]⟩)
  · rw [u.isDrive]
    exact h.drive p (.tail _ hp)
  · rw [u.timebase, free]
    exact (firstOverflow_cons room).2

theorem Agenda.insert_free (a : Agenda) (now : Stamp) (e : AgendaEntry) : (a.insert now e).free = a.free - 1 := by
  simp only [Agenda.free, Agenda.insert, insertByDistance_length]
  omega

theorem Agenda.length_of_free {a : Agenda} (h : 1 ≤ a.free) : a.entries.length < 64 := by
  simp only [Agenda.free, Config.agendaCapacity] at h
  omega

theorem mem_insertEntry {e x : AgendaEntry} : x ∈ (s.insertEntry e).agenda.entries ↔ x = e ∨ x ∈ s.agenda.entries :=
  mem_insertByDistance _ _ _ _

/-- The entry of an order fits at the line in DRIVE. -/
theorem BatchFits.entry {o : Order} {rest : List Order} (h : BatchFits s (o :: rest)) : EntryFits s o.entry where
  drive := h.drive o (.head _)
  action := h.action o (.head _)
  lead _ := rfl
  origin := decide_eq_true (h.host o (.head _))
  owner := rfl

/-- One order of an accepted batch (R84, R85). -/
theorem AgendaDuring.carryOut {o : Order} {rest : List Order} (h : AgendaDuring s due) (fits : BatchFits s (o :: rest)) :
    AgendaDuring (s.carryOut o) due ∧ BatchFits (s.carryOut o) rest := by
  have fresh : ∀ x ∈ s.agenda.entries, x.tag ≠ o.tag := fits.fresh o (.head _)
  have updates := s.carryOut_updates o
  obtain ⟨k, room⟩ := fits.room
  have enough := (firstOverflow_cons room).1
  unfold State.carryOut at updates ⊢
  split at updates
  · next future =>
    have need : o.need s.timebase.time = 1 := if_pos future
    rw [if_pos future]
    refine ⟨h.insertEntry (Agenda.length_of_free (need ▸ enough)) fresh fits.entry future, fits.rest updates ?_ ?_⟩
    · exact fun e he => (mem_insertEntry.1 he).symm.imp_right fun same => by rw [same]; rfl
    · rw [need]
      exact Agenda.insert_free _ _ _
  · next passed =>
    rw [if_neg passed]
    unfold State.fireLate at updates ⊢
    dsimp only at updates ⊢
    split at updates
    · next single =>
      have need : o.need s.timebase.time = 0 := by simp [Order.need, passed, single, Action.isPulse]
      refine ⟨((h.actOn _ _).recordFired _).edgeDone _ _, fits.rest updates ?_ ?_⟩
      · exact fun e he => .inl (by simpa [Agenda.record] using he)
      · simp [need, Agenda.record, Agenda.free]
    · next l w pulse =>
      have need : o.need s.timebase.time = 1 := by simp [Order.need, passed, pulse, Action.isPulse]
      have trail := fits.entry.trailAt (by simp [Order.entry, pulse, Action.isPulse]) s.timebase.time w
      have mode := (Update.act (s := s) o.line o.action.leadAction).one.isDrive o.line
      have inserted := (h.actOn o.line o.action.leadAction).insertEntry (e := o.entry.trailAt s.timebase.time w)
        (Agenda.length_of_free (need ▸ enough)) fresh (trail.of_same (fun drive => mode.trans drive) fun _ => id)
        (classify_after (width_ne_zero fits.entry pulse) _)
      refine ⟨inserted.edgeDone _ _, fits.rest updates ?_ ?_⟩
      · intro e he
        rw [State.edgeDone_agenda] at he
        exact (mem_insertEntry.1 he).symm.imp_right fun same => by rw [same]; rfl
      · rw [need, State.edgeDone_agenda]
        exact Agenda.insert_free _ _ _

/-- An accepted batch (R84). -/
theorem AgendaDuring.carryOutAll {batch : List Order} (h : AgendaDuring s due) (fits : BatchFits s batch) :
    AgendaDuring (batch.foldl State.carryOut s) due := by
  induction batch generalizing s with
  | nil => exact h
  | cons o rest ih =>
    obtain ⟨kept, left⟩ := h.carryOut fits
    exact ih kept left

end

end Sys2Proof.Machine
end

section
/-! Every step keeps the Edge Agenda and the Follow Table: the matches of a capture, the tick, and the requests (R99 to
R101, R122, R123, R130 to R137). -/

namespace Sys2Proof.Machine

open Sys2Proof.Safety

/-! ## One rule -/

theorem satInc32_le {n : Nat} (h : n ≤ 4294967295) : satInc32 n ≤ 4294967295 := by
  unfold satInc32
  split <;> omega

theorem ruleOk_missed {r : FollowRule} (h : RuleOk r) : RuleOk { r with misses := satInc32 r.misses } := by
  obtain ⟨action, target, delay, shots, remaining, armed, spent, fires, misses⟩ := h
  exact ⟨action, target, delay, shots, remaining, armed, spent, fires, satInc32_le misses⟩

/-- A fire of an ARMED rule leaves it ARMED with shots remaining, or SPENT with none (R136). -/
theorem ruleOk_fired {r : FollowRule} (h : RuleOk r) (armed : r.status = .armed) : RuleOk r.countFire := by
  obtain ⟨action, target, delay, shots, remaining, left, -, fires, misses⟩ := h
  have counted := satInc32_le fires
  unfold FollowRule.countFire
  dsimp only
  split
  · next unlimited =>
    exact ⟨action, target, delay, shots, remaining, fun _ limited => absurd unlimited limited, by simp [armed], counted,
      misses⟩
  · next limited =>
    refine ⟨action, target, delay, shots, by dsimp only; omega, ?_, ?_, counted, misses⟩
    · dsimp only
      split
      · simp
      · next more => exact fun _ _ => more
    · dsimp only
      split
      · next last => exact fun _ => ⟨limited, last⟩
      · simp [armed]

section
variable {s t : State} {k : RuleId} {r : FollowRule} {c : Capture}

theorem rulesOk_of_same (h : RulesOk s) (rules : t.rules = s.rules) : RulesOk t := fun k => by
  rw [State.rule, rules]
  exact h k

theorem rulesOk_setRule (h : RulesOk s) {new : Option FollowRule} (ok : ∀ r ∈ new, RuleOk r) :
    RulesOk (s.setRule k new) := by
  intro j
  rw [State.rule_setRule]
  split
  · exact ok
  · exact h j

/-- The agenda and the rules between two ticks. -/
structure TablesOk (s : State) : Prop where
  agenda : AgendaDuring s []
  rules : RulesOk s

theorem tablesOk_iff : TablesOk s ↔ AgendaOk s ∧ RulesOk s :=
  ⟨fun ⟨agenda, rules⟩ => ⟨agendaOk_iff.2 agenda, rules⟩, fun ⟨agenda, rules⟩ => ⟨agendaOk_iff.1 agenda, rules⟩⟩

/-- What leaves the agenda, the rules, the time and the modes as they are. -/
theorem TablesOk.of_same (h : TablesOk s) (agenda : t.agenda = s.agenda) (rules : t.rules = s.rules)
    (time : t.timebase.time = s.timebase.time) (mode : ∀ i, (t.line i).mode = (s.line i).mode) : TablesOk t :=
  ⟨h.agenda.of_same agenda time mode fun k hk => by rwa [State.rule, rules], rulesOk_of_same h.rules rules⟩

/-- Writes that leave the agenda and the rules alone. -/
theorem TablesOk.of_updates (h : TablesOk s) (u : Updates s t) (agenda : t.agenda = s.agenda) (rules : t.rules = s.rules) :
    TablesOk t := h.of_same agenda rules (by rw [u.timebase]) u.mode

theorem TablesOk.awaitTest (h : TablesOk s) (ev : AwaitEvent) : TablesOk (s.awaitTest ev) :=
  h.of_updates (Update.await ev).one (by simp) (by simp)

theorem TablesOk.raiseIf (h : TablesOk s) (report : Bool) {b : NoticeBody} (ordinary : b.isOrdinary = true) :
    TablesOk (s.raiseIf report b) := h.of_updates (s.raiseIf_updates report ordinary) (by simp) (by simp)

theorem TablesOk.setRule (h : TablesOk s) (ok : RuleOk r) : TablesOk (s.setRule k (some r)) :=
  ⟨h.agenda.setRule k r, rulesOk_setRule h.rules (by rintro _ ⟨⟩; exact ok)⟩

/-! ## A match (R130 to R137) -/

theorem TablesOk.missRule (h : TablesOk s) (ok : RuleOk r) (reason : MissReason) : TablesOk (s.missRule k r reason c) :=
  (h.setRule (ruleOk_missed ok)).raiseIf _ rfl

theorem TablesOk.countFire (h : TablesOk s) (ok : RuleOk r) (armed : r.status = .armed) : TablesOk (s.countFire k r) :=
  (h.setRule (ruleOk_fired ok armed)).raiseIf _ rfl

/-- The entry of a fire fits: its rule is not EMPTY and its target is in DRIVE. -/
theorem entryFits_fire (ok : RuleOk r) (owned : (s.rule k).isSome = true)
    (drive : (s.line r.settings.target).isDrive = true) (due : Stamp) {phase : Phase}
    (lead : r.settings.action.isPulse = false → phase = .lead) : EntryFits s (r.entry k due phase) where
  drive := drive
  action := ok.1
  lead := lead
  origin := beq_self_eq_true _
  owner := owned

theorem AgendaDuring.placeFire {due : Stamp} (h : AgendaDuring s []) (ok : RuleOk r) (owned : (s.rule k).isSome = true)
    (drive : (s.line r.settings.target).isDrive = true) (fresh : ∀ e ∈ s.agenda.entries, e.tag ≠ followTag k)
    (room : classify due s.timebase.time = .future ∨ r.settings.action.isPulse = true → s.agenda.entries.length < 64) :
    AgendaDuring (s.placeFire k r due) [] := by
  unfold State.placeFire
  split
  · next future => exact h.insertEntry (room (.inl future)) fresh (entryFits_fire ok owned drive due fun _ => rfl) future
  · have acted := h.actOn r.settings.target r.settings.action.leadAction
    dsimp only
    split
    · exact acted
    · next l w pulse =>
      have isPulse : r.settings.action.isPulse = true := by rw [pulse]; rfl
      have width : w ≠ 0 := by simpa [pulse, actionOk] using ok.1
      have fits : EntryFits s (r.entry k (after s.timebase.time w) .trail) :=
        entryFits_fire ok owned drive _ fun single => by rw [isPulse] at single; cases single
      have mode := (Update.act (s := s) r.settings.target r.settings.action.leadAction).one.isDrive r.settings.target
      exact acted.insertEntry (room (.inr isPulse)) fresh (fits.of_same (fun drive => mode.trans drive) fun _ => id)
        (classify_after width _)

/-- The tests of a match up to the retrigger test have passed (R132 to R134). -/
structure MayFire (s : State) (k : RuleId) (r : FollowRule) : Prop where
  held : (s.rule k).isSome = true
  ok : RuleOk r
  armed : r.status = .armed
  drive : (s.line r.settings.target).isDrive = true

theorem TablesOk.tryFire (h : TablesOk s) (may : MayFire s k r) (fresh : ∀ e ∈ s.agenda.entries, e.tag ≠ followTag k)
    (due : Stamp) : TablesOk (s.tryFire k r due c).1 := by
  unfold State.tryFire
  split
  · exact h.missRule may.ok _
  · next capacity =>
    have room (need : classify due s.timebase.time = .future ∨ r.settings.action.isPulse = true) :
        s.agenda.entries.length < 64 := by
      have free : s.agenda.free ≠ 0 := fun full => capacity ⟨need, full⟩
      exact Agenda.length_of_free (Nat.pos_of_ne_zero free)
    have placed : TablesOk (s.placeFire k r due) :=
      ⟨h.agenda.placeFire may.ok may.held may.drive fresh room, rulesOk_of_same h.rules (by simp)⟩
    exact placed.countFire may.ok may.armed

/-- R100: the rule's old entry makes way for the new one. -/
theorem TablesOk.retrigger (h : TablesOk s) (e : AgendaEntry) : TablesOk (s.retrigger e) := by
  refine ⟨?_, rulesOk_of_same h.rules (by simp)⟩
  unfold State.retrigger
  split
  · exact (h.agenda.actOn _ _).removeEntry _
  · exact h.agenda.removeEntry _

theorem MayFire.retrigger (may : MayFire s k r) (e : AgendaEntry) : MayFire (s.retrigger e) k r where
  held := by rw [State.rule, State.retrigger_rules]; exact may.held
  ok := may.ok
  armed := may.armed
  drive := by rw [(s.retrigger_updates e).isDrive]; exact may.drive

theorem mem_retrigger {e x : AgendaEntry} :
    x ∈ (s.retrigger e).agenda.entries ↔ x ∈ s.agenda.entries ∧ x.tag ≠ e.tag := by
  rw [State.retrigger, State.removeEntry_agenda, mem_remove]
  split <;> rfl

theorem TablesOk.retriggerTest (h : TablesOk s) (may : MayFire s k r) (due : Stamp) :
    TablesOk (s.retriggerTest k r due c).1 := by
  unfold State.retriggerTest
  split
  · next free => exact h.tryFire may (Agenda.find_none free) due
  · exact h.missRule may.ok _
  · next e held _ =>
    refine ((h.retrigger e).tryFire (may.retrigger e) (fun x hx => ?_) due).awaitTest _
    rw [← (Agenda.find_some held).2]
    exact (mem_retrigger.1 hx).2

theorem TablesOk.matchRule (h : TablesOk s) (held : s.rule k = some r) (armed : r.status = .armed) :
    TablesOk (s.matchRule k r c).1 := by
  have ok : RuleOk r := h.rules k r held
  unfold State.matchRule
  dsimp only
  split
  · exact h.missRule ok _
  · next drive =>
    split
    · exact h.missRule ok _
    · exact h.retriggerTest ⟨by rw [held]; rfl, ok, armed, by simpa using drive⟩ _

/-- A capture over all eight rules, with what each match keeps besides (R130). -/
theorem TablesOk.matchCapture {P : State → Prop}
    (keeps : ∀ {s : State} {k : RuleId} {r : FollowRule}, TablesOk s → s.rule k = some r → r.status = .armed → P s →
      P (s.matchRule k r c).1)
    (h : TablesOk s) (hp : P s) : TablesOk (s.matchCapture c).1 ∧ P (s.matchCapture c).1 := by
  have all (ks : List RuleId) (acc : State × List RuleId) (ha : TablesOk acc.1 ∧ P acc.1) :
      TablesOk (ks.foldl (tryRule c) acc).1 ∧ P (ks.foldl (tryRule c) acc).1 := by
    induction ks generalizing acc with
    | nil => exact ha
    | cons k ks ih =>
      refine ih _ ?_
      unfold tryRule
      split
      · next r held =>
        split
        · next matched =>
          simp only [FollowRule.matchesCapture, Bool.and_eq_true, beq_iff_eq] at matched
          exact ⟨ha.1.matchRule held matched.1.1, keeps ha.1 held matched.1.1 ha.2⟩
        · exact ha
      · exact ha
  exact all ruleIds (s, []) ⟨h, hp⟩

/-- A capture handed over, with what its parts keep besides (R46). -/
theorem TablesOk.handOver {P : State → Prop}
    (match_keeps : ∀ {s : State} {k : RuleId} {r : FollowRule}, TablesOk s → s.rule k = some r → r.status = .armed →
      P s → P (s.matchRule k r c).1)
    (take_keeps : ∀ {s : State} {fired : List RuleId}, P s → P (s.takeCapture c fired))
    (h : TablesOk s) (hp : P s) : TablesOk (s.handOver c) ∧ P (s.handOver c) := by
  obtain ⟨matched, kept⟩ := h.matchCapture match_keeps hp
  exact ⟨matched.of_updates (State.takeCapture_updates _ _ _) (State.takeCapture_agenda _ _ _)
    (State.takeCapture_rules _ _ _), take_keeps kept⟩

/-! ## The tick -/

/-- A tick up to its expiries: the counts, the test at the tick, steps 1 and 2 of every line (R2, R35). -/
def State.untilExpiries (s : State) (pins : Half) : State :=
  ((s.countTick pins).awaitTest .tick).patternSteps s.timebase.atBoundary
    (s.timebase.atBoundary && s.timebase.staged.isSome)

theorem State.runTick_eq_untilExpiries (s : State) (pins : Half) :
    s.runTick pins = (s.untilExpiries pins).expireDue.qualify := rfl

theorem State.untilExpiries_updates (s : State) (pins : Half) : Updates (s.countTick pins) (s.untilExpiries pins) :=
  (Update.await .tick).one.trans (State.patternSteps_updates _ _ _)

theorem State.untilExpiries_agenda (s : State) (pins : Half) : (s.untilExpiries pins).agenda = s.agenda := by
  simp [State.untilExpiries]

theorem State.untilExpiries_rules (s : State) (pins : Half) : (s.untilExpiries pins).rules = s.rules := by
  simp [State.untilExpiries]

/-- The expiries of a tick, with what each of them keeps besides (R87). -/
theorem TablesOk.expireDue {P : State → Prop}
    (keeps : ∀ {s : State} {e : AgendaEntry} {due : List AgendaEntry}, AgendaDuring s (e :: due) →
      e ∈ s.agenda.entries → P s → P (s.expire e))
    (h : TablesOk s) (pins : Half) (hp : P (s.untilExpiries pins)) :
    TablesOk (s.untilExpiries pins).expireDue ∧ P (s.untilExpiries pins).expireDue := by
  have updates := s.untilExpiries_updates pins
  have agenda := s.untilExpiries_agenda pins
  have same : (s.untilExpiries pins).dueNow = (s.countTick pins).dueNow := by
    rw [State.dueNow, agenda, updates.timebase]
    rfl
  have counted : AgendaDuring (s.untilExpiries pins) (s.untilExpiries pins).dueNow := by
    rw [same]
    exact (h.agenda.countTick pins).of_updates updates agenda (s.untilExpiries_rules pins)
  have rules : RulesOk (s.untilExpiries pins).expireDue :=
    rulesOk_of_same h.rules ((State.expireDue_rules _).trans (s.untilExpiries_rules pins))
  have held : ∀ e ∈ (s.untilExpiries pins).dueNow, e ∈ (s.untilExpiries pins).agenda.entries :=
    fun e he => (List.mem_filter.1 he).1
  have tags : ((s.untilExpiries pins).dueNow.map (·.tag)).Nodup := counted.tags.sublist (List.filter_sublist.map _)
  have all := counted.expireAll keeps held tags hp
  exact ⟨⟨all.1, rules⟩, all.2⟩

/-- The qualifications of a tick, with what their parts keep besides (R47). -/
theorem TablesOk.qualify {P : State → Prop}
    (match_keeps : ∀ {s : State} {k : RuleId} {r : FollowRule} {c : Capture}, TablesOk s → s.rule k = some r →
      r.status = .armed → P s → P (s.matchRule k r c).1)
    (take_keeps : ∀ {s : State} {c : Capture} {fired : List RuleId}, P s → P (s.takeCapture c fired))
    (h : TablesOk s) (hp : P s.sampleAll) : TablesOk s.qualify ∧ P s.qualify := by
  have hand_over (captures : List Capture) (u : State) (hu : TablesOk u ∧ P u) :
      TablesOk (captures.foldl State.handOver u) ∧ P (captures.foldl State.handOver u) := by
    induction captures generalizing u with
    | nil => exact hu
    | cons c captures ih =>
      have given : TablesOk (u.handOver c) ∧ P (u.handOver c) :=
        hu.1.handOver (P := P) match_keeps take_keeps hu.2
      rw [List.foldl_cons]
      exact ih _ given
  rw [State.qualify]
  exact hand_over _ _ ⟨h.of_same rfl rfl rfl fun _ => rfl, hp⟩

theorem TablesOk.runTick (h : TablesOk s) (pins : Half) : TablesOk (s.runTick pins) := by
  have expired := (h.expireDue (P := fun _ => True) (fun _ _ _ => trivial) pins trivial).1
  exact (expired.qualify (P := fun _ => True) (fun _ _ _ _ => trivial) (fun _ => trivial) trivial).1

/-! ## Requests -/

theorem TablesOk.clearRule (h : TablesOk s) (k : RuleId) : TablesOk (s.clearRule k) := by
  refine ⟨?_, ?_⟩ <;> unfold State.clearRule <;> split
  · next e held =>
    refine (h.agenda.dropEntry e).emptyRule fun x hx => ?_
    rw [← (Agenda.find_some held).2]
    rw [State.dropEntry, State.awaitTest_agenda, State.removeEntry_agenda, mem_remove] at hx
    exact hx.2
  · next free => exact h.agenda.emptyRule (Agenda.find_none free)
  · exact rulesOk_setRule (rulesOk_of_same h.rules (State.dropEntry_rules _ _)) (by simp)
  · exact rulesOk_setRule h.rules (by simp)

theorem State.removeLineEntries_agenda (s : State) (i : LineId) :
    (s.removeLineEntries i).agenda = s.agenda.removeLine i := by
  unfold State.removeLineEntries
  dsimp only
  split
  · rfl
  · rw [State.awaitTest_agenda]

theorem TablesOk.removeLineEntries (h : TablesOk s) (i : LineId) : TablesOk (s.removeLineEntries i) :=
  ⟨h.agenda.removeLineEntries i, rulesOk_of_same h.rules (s.removeLineEntries_rules i)⟩

/-- A line is configured anew when no entry names it (R28). -/
theorem TablesOk.reconfigure (h : TablesOk s) (i : LineId) (m : LineMode) : TablesOk (s.reconfigure i m) := by
  have removed := h.removeLineEntries i
  refine ⟨removed.agenda.of_sublist (.refl _) rfl rfl fun e he fit => fit.of_same (fun drive => ?_) fun _ => id,
    removed.rules⟩
  have other : e.line ≠ i := by
    have he : e ∈ (s.removeLineEntries i).agenda.entries := he
    rw [State.removeLineEntries_agenda, mem_removeLine] at he
    exact he.2
  rw [State.reconfigure, State.line_setLine, if_neg other.symm]
  exact drive

/-- T may be set while the agenda is empty (R13). -/
theorem TablesOk.of_empty (h : TablesOk s) (empty : s.agenda.entries = []) (agenda : t.agenda = s.agenda)
    (rules : t.rules = s.rules) : TablesOk t := by
  have held : t.agenda.entries = [] := by rw [agenda, empty]
  refine ⟨⟨by simp [held], by simp [held], by simp [held], by simp [held], by simp [held], ?_, ?_⟩,
    rulesOk_of_same h.rules rules⟩ <;> rw [agenda]
  · exact h.agenda.recorded
  · exact h.agenda.distinct

theorem State.enterStarted_time (s : State) : s.enterStarted.timebase.time = s.timebase.time := by
  unfold State.enterStarted
  split <;> rfl

theorem State.stopTime_time (s : State) : s.stopTime.timebase.time = s.timebase.time := by
  unfold State.stopTime
  split <;> rfl

theorem State.setTimebase_time (s : State) (p n : Nat) (g : Bool) :
    (s.setTimebase p n g).timebase.time = s.timebase.time := by
  unfold State.setTimebase State.lengthAtOnce
  dsimp only
  split
  · split
    · rfl
    · rw [(Updates.foldl State.clipNotice_updates _ _).timebase]; rfl
  · rfl

/-- A change of the reasons keeps T and the modes of the lines (R14 to R16). -/
theorem State.changeReasons_ground (s : State) (r : HoldReasons) :
    (s.changeReasons r).timebase.time = s.timebase.time ∧ ∀ i, ((s.changeReasons r).line i).mode = (s.line i).mode := by
  rcases s.changeReasons_cases r with ⟨-, -, e⟩ | ⟨-, e⟩ | e | ⟨-, -, e⟩ <;> rw [e]
  · exact ⟨by rw [State.enterHold_timebase], s.enterHold_mode r⟩
  · exact ⟨by rw [State.leaveHold_timebase], s.leaveHold_mode⟩
  · exact ⟨rfl, fun _ => rfl⟩
  · exact ⟨rfl, fun _ => rfl⟩

theorem State.mode_of_lines (lines : t.lines = s.lines) (i : LineId) : (t.line i).mode = (s.line i).mode := by
  rw [State.line, lines]
  rfl

theorem TablesOk.effect (h : TablesOk s) (e : Effect s t) : TablesOk t := by
  cases e with
  | unchanged => exact h
  | start =>
    exact h.of_same (State.enterStarted_agenda _) (State.enterStarted_rules _) (State.enterStarted_time _)
      (State.mode_of_lines (State.enterStarted_lines _))
  | startZero _ empty => exact h.of_empty empty (by simp) (by simp)
  | stop =>
    exact h.of_same (State.stopTime_agenda _) (State.stopTime_rules _) (State.stopTime_time _)
      (State.mode_of_lines (State.stopTime_lines _))
  | setTimebase =>
    exact h.of_same (State.setTimebase_agenda _ _ _ _) (State.setTimebase_rules _ _ _ _)
      (State.setTimebase_time _ _ _ _) (State.mode_of_lines (State.setTimebase_lines _ _ _ _))
  | reasons r =>
    obtain ⟨time, mode⟩ := s.changeReasons_ground r
    exact h.of_same (State.changeReasons_agenda _ _) (State.changeReasons_rules _ _) time mode
  | reconfigure i m => exact h.reconfigure i m
  | writeSlot i sl p => exact h.of_same rfl rfl rfl (State.setLine_mode (Line.write_mode _ sl p))
  | clearPattern i => exact h.of_same rfl rfl rfl (State.setLine_mode rfl)
  | release p => exact h.of_updates (s.releaseThrough_updates p) (by simp) (by simp)
  | schedule batch actions passed =>
    exact ⟨h.agenda.carryOutAll (batchFits_of_none actions passed),
      rulesOk_of_same h.rules (foldl_keeps State.rules State.carryOut (fun _ _ => by simp) _ _)⟩
  | cancel e complete =>
    refine ⟨?_, rulesOk_of_same h.rules (State.cancelEntry_rules _ _ _)⟩
    unfold State.cancelEntry
    split
    · exact (h.agenda.actOn _ _).dropEntry e
    · exact h.agenda.dropEntry e
  | cancelLine i => exact h.removeLineEntries i
  | rule k r ok => exact h.setRule (ok (h.rules k))
  | clearRule k => exact h.clearRule k
  | present | clearCounters | read | watermark | acknowledge | configure => exact h.of_same rfl rfl rfl fun _ => rfl

/-! ## Every step -/

theorem TablesOk.move (h : TablesOk s) (m : Move s t) : TablesOk t := by
  cases m with
  | effect e => exact h.effect e
  | tick pins => exact h.runTick pins
  | transmit => exact h.of_same (by simp) (by simp) (by simp) (State.mode_of_lines (State.transmit_lines _))
  | noticeSent => exact h.of_same (by simp) (by simp) (by simp) (State.mode_of_lines (State.noticeSent_lines _))
  | awaitExpiry => exact h.of_same (by simp) (by simp) (by simp) (State.mode_of_lines (State.awaitExpiry_lines _))
  | outside | receiver | counters | store | reply | record | restart | defer | replyDone | deferredDone | endFrame
    | repeatExpiry | period => exact h.of_same rfl rfl rfl fun _ => rfl

theorem tablesOk_atReset (r : AtReset s) : TablesOk s := by
  refine ⟨⟨?_, ?_, ?_, ?_, ?_, ?_, ?_⟩, fun k => ?_⟩
  case refine_8 => simp [State.rule, r.rules]
  all_goals simp [r.agenda, Agenda.reset]

/-- Every step keeps the agenda and the rules together. -/
theorem step_keeps_tablesOk (hs : TablesOk s) (h : step s = .next t) : TablesOk t :=
  step_keeps TablesOk.move tablesOk_atReset hs h

end

end Sys2Proof.Machine
end

section
/-! While the await timer runs the condition of the deferred AWAIT is false: each move keeps this, since whatever can make
a condition true is followed by a test of it (R184 to R187). -/

namespace Sys2Proof.Machine

open Sys2Proof.Safety

/-! ## Conditions -/

/-- The condition that the deferred request waits for. -/
def Link.waitsFor (l : Link) : Option AwaitCondition := l.awaiting.map (·.condition)

section
variable {s t u : State} {p : AwaitCondition → Prop} {ev : AwaitEvent}

theorem awaitOk_iff : AwaitOk s ↔ ∀ c ∈ s.link.waitsFor, c.holds s = false := by
  simp [AwaitOk, Link.waitsFor]

/-- Every entry of the one agenda has its line named in the other, but for the entries that name the line `free`. -/
def Covered (free : Option LineId) (a b : Agenda) : Prop :=
  ∀ e ∈ a.entries, some e.line ≠ free → ∃ x ∈ b.entries, x.line = e.line

theorem Covered.refl (a : Agenda) (free : Option LineId) : Covered free a a := fun e he _ => ⟨e, he, rfl⟩

theorem Covered.of_subset {a b : Agenda} (h : ∀ e ∈ a.entries, e ∈ b.entries) : Covered none a b :=
  fun e he _ => ⟨e, h e he, rfl⟩

theorem Covered.trans {a b c : Agenda} {free : Option LineId} (h : Covered free a b) (h' : Covered none b c) :
    Covered free a c := by
  intro e he other
  obtain ⟨x, hx, same⟩ := h e he other
  obtain ⟨y, hy, same'⟩ := h' x hx (by simp)
  exact ⟨y, hy, same'.trans same⟩

theorem Covered.counted {a b : Agenda} (h : Covered none a b) {line : Option LineId} (zero : b.counted line = 0) :
    a.counted line = 0 := by
  cases line with
  | none =>
    rw [Agenda.counted_none, List.length_eq_zero_iff] at zero ⊢
    refine List.eq_nil_iff_forall_not_mem.2 fun e he => ?_
    obtain ⟨x, hx, -⟩ := h e he (by simp)
    rw [zero] at hx
    cases hx
  | some i =>
    rw [Agenda.counted_some_eq_zero] at zero ⊢
    intro e he same
    obtain ⟨x, hx, line⟩ := h e he (by simp)
    exact zero x hx (line.trans same)

/-- Only AGENDA_EMPTY of the removed line or of ALL can become true by a removal, and both are tested (R186). -/
theorem Covered.counted_removal {a b : Agenda} {i j : LineId} (h : Covered (some i) a b) (other : j ≠ i)
    (zero : b.counted (some j) = 0) : a.counted (some j) = 0 := by
  rw [Agenda.counted_some_eq_zero] at zero ⊢
  intro e he same
  obtain ⟨x, hx, line⟩ := h e he (by rw [same]; simpa using other)
  exact zero x hx (line.trans same)

/-! ## What makes no condition true -/

/-- No condition with the property `p` becomes true from `s` to `t`, and what is waited for stays. -/
structure QuietOn (p : AwaitCondition → Prop) (s t : State) : Prop where
  waits : t.link.waitsFor = s.link.waitsFor
  holds : ∀ c, p c → c.holds t = true → c.holds s = true

/-- No condition becomes true. -/
abbrev Quiet (s t : State) : Prop := QuietOn (fun _ => True) s t

/-- No condition becomes true but those tested at the event. -/
abbrev QuietUntil (ev : AwaitEvent) (s t : State) : Prop := QuietOn (fun c => c.testedAt ev = false) s t

theorem QuietOn.trans (h : QuietOn p s t) (h' : QuietOn p t u) : QuietOn p s u :=
  ⟨h'.waits.trans h.waits, fun c hp hu => h.holds c hp (h'.holds c hp hu)⟩

theorem Quiet.on (h : Quiet s t) : QuietOn p s t := ⟨h.waits, fun c _ => h.holds c trivial⟩

/-- Quiet blocks: the entries held cover those held before, no more is unread, T is the same, and hold is not left. -/
theorem Quiet.of_blocks (waits : t.link.waitsFor = s.link.waitsFor) (agenda : Covered none s.agenda t.agenda)
    (unread : t.queue.unread ≤ s.queue.unread) (time : t.timebase.time = s.timebase.time)
    (reasons : t.timebase.reasons.isEmpty = true → s.timebase.reasons.isEmpty = true) : Quiet s t := by
  refine ⟨waits, fun c _ h => ?_⟩
  cases c with
  | agendaEmpty line => exact beq_iff_eq.2 (agenda.counted (beq_iff_eq.1 h))
  | unreadAtLeast n => exact decide_eq_true ((of_decide_eq_true h).trans unread)
  | timeReached x => rwa [AwaitCondition.holds, ← time]
  | holdClear => exact reasons h

/-- Writes that keep the link and the queue, and under which the entries cover those held before. -/
theorem Quiet.of_updates (update : Updates s t) (link : t.link = s.link) (queue : t.queue = s.queue)
    (agenda : Covered none s.agenda t.agenda) : Quiet s t :=
  .of_blocks (by rw [link]) agenda (by rw [queue]) (by rw [update.timebase]) (by rw [update.timebase]; exact id)

theorem awaitOk_quiet (h : AwaitOk s) (quiet : Quiet s t) : AwaitOk t := by
  rw [awaitOk_iff] at h ⊢
  intro c hc
  rw [quiet.waits] at hc
  by_contra holds
  have := quiet.holds c trivial (by simpa using holds)
  rw [h c hc] at this
  cases this

/-- A request that is not waiting keeps the invariant. -/
theorem awaitOk_of_none (h : s.link.awaiting = none) : AwaitOk s := by simp [AwaitOk, h]

/-- After the test at an event no condition tested then is true and waited for. -/
theorem awaitOk_tested (h : AwaitOk s) (quiet : QuietUntil ev s t) : AwaitOk (t.awaitTest ev) := by
  unfold State.awaitTest
  split
  · next d hd =>
    split
    · exact awaitOk_of_none (State.awaiting_answerDeferred _ _ _)
    · next untrue =>
      rw [awaitOk_iff] at h ⊢
      intro c hc
      have same : d.condition = c := by simpa [Link.waitsFor, hd] using hc
      rw [quiet.waits] at hc
      by_contra holds
      rw [Bool.not_eq_false] at holds
      refine untrue ?_
      rw [same, holds, Bool.and_true]
      by_contra untested
      have := quiet.holds c (by simpa using untested) holds
      rw [h c hc] at this
      cases this
  · next none => exact awaitOk_of_none none

/-! ## The agenda -/

/-- Entries that name the line `i` may go before the test of its removal. -/
theorem QuietUntil.of_removal {i : LineId} (update : Updates s t) (link : t.link = s.link) (queue : t.queue = s.queue)
    (agenda : Covered (some i) s.agenda t.agenda) : QuietUntil (.removal i) s t := by
  refine ⟨by rw [link], fun c untested h => ?_⟩
  cases c with
  | agendaEmpty line =>
    cases line with
    | none => cases untested
    | some j =>
      have other : (j == i) = false := untested
      rw [beq_eq_false_iff_ne] at other
      exact beq_iff_eq.2 (agenda.counted_removal other (beq_iff_eq.1 h))
  | unreadAtLeast n => rwa [AwaitCondition.holds, ← queue]
  | timeReached x => rwa [AwaitCondition.holds, ← update.timebase]
  | holdClear => rwa [AwaitCondition.holds, ← update.timebase]

/-- An entry is the only one with its tag (R77). -/
theorem AgendaDuring.eq_of_tag {due : List AgendaEntry} (h : AgendaDuring s due) {e x : AgendaEntry}
    (he : e ∈ s.agenda.entries) (hx : x ∈ s.agenda.entries) (same : x.tag = e.tag) : x = e :=
  List.inj_on_of_nodup_map h.tags hx he same

/-- A removal of an entry leaves the other lines their entries. -/
theorem covered_remove {due : List AgendaEntry} (h : AgendaDuring s due) {e : AgendaEntry} (held : e ∈ s.agenda.entries) :
    Covered (some e.line) s.agenda (s.agenda.remove e.tag) := by
  intro x hx other
  refine ⟨x, (mem_remove _ _ _).2 ⟨hx, fun same => other ?_⟩, rfl⟩
  rw [h.eq_of_tag held hx same]

theorem awaitOk_dropEntry {due : List AgendaEntry} (h : AwaitOk s) (agenda : AgendaDuring s due) {e : AgendaEntry}
    (held : e ∈ s.agenda.entries) : AwaitOk (s.dropEntry e) :=
  awaitOk_tested h (.of_removal (s.removeEntry_updates e.tag) rfl rfl (covered_remove agenda held))

theorem quiet_actOn (i : LineId) (a : LevelAction) : Quiet s (s.actOn i a) :=
  .of_updates (Update.act i a).one rfl rfl (.refl _ _)

theorem quiet_edgeDone (e : AgendaEntry) (phase : Phase) : Quiet s (s.edgeDone e phase) :=
  .of_updates (s.edgeDone_updates e phase) (by simp) (by simp) (by rw [State.edgeDone_agenda]; exact .refl _ _)

theorem quiet_recordFired (tag : Half) : Quiet s (s.recordFired tag) :=
  .of_updates (Update.agenda _).one rfl rfl (.of_subset fun _ => id)

theorem quiet_insertEntry (e : AgendaEntry) : Quiet s (s.insertEntry e) :=
  .of_updates (s.insertEntry_updates e) rfl rfl (.of_subset fun _ hx => mem_insertEntry.2 (.inr hx))

/-- An expiry of an entry held (R88 to R90). -/
theorem awaitOk_expire {due : List AgendaEntry} {e : AgendaEntry} (agenda : AgendaDuring s (e :: due))
    (held : e ∈ s.agenda.entries) (h : AwaitOk s) : AwaitOk (s.expire e) := by
  have fired (a : LevelAction) (phase : Phase) :
      AwaitOk ((((s.actOn e.line a).recordFired e.tag).edgeDone e phase).dropEntry e) := by
    refine awaitOk_dropEntry (awaitOk_quiet h ?_) (((agenda.actOn _ _).recordFired _).edgeDone _ _) ?_
    · exact ((quiet_actOn _ _).trans (quiet_recordFired _)).trans (quiet_edgeDone _ _)
    · rw [State.edgeDone_agenda]
      exact held
  unfold State.expire
  split
  · exact fired _ _
  · next l w _ _ =>
    refine awaitOk_quiet h (.trans ?_ (quiet_edgeDone e .lead))
    refine Quiet.of_updates (((Update.act _ _).one.tail (.agenda _)).tail (.agenda _)) rfl rfl fun x hx _ => ?_
    by_cases same : x.tag = e.tag
    · exact ⟨_, mem_insertEntry.2 (.inl rfl), by rw [agenda.eq_of_tag held hx same]; rfl⟩
    · exact ⟨x, mem_insertEntry.2 (.inr ((mem_remove _ _ _).2 ⟨hx, same⟩)), rfl⟩
  · exact fired _ _

theorem quiet_carryOut (o : Order) : Quiet s (s.carryOut o) := by
  unfold State.carryOut State.fireLate
  dsimp only
  split
  · exact quiet_insertEntry _
  · split
    · exact ((quiet_actOn _ _).trans (quiet_recordFired _)).trans (quiet_edgeDone _ _)
    · exact ((quiet_actOn _ _).trans (quiet_insertEntry _)).trans (quiet_edgeDone _ _)

theorem awaitOk_carryOuts (batch : List Order) (h : AwaitOk s) : AwaitOk (batch.foldl State.carryOut s) := by
  induction batch generalizing s with
  | nil => exact h
  | cons o batch ih =>
    rw [List.foldl_cons]
    exact ih (awaitOk_quiet h (quiet_carryOut o))

theorem awaitOk_removeLineEntries (h : AwaitOk s) (i : LineId) : AwaitOk (s.removeLineEntries i) := by
  have removed : QuietUntil (.removal i) s { s with agenda := s.agenda.removeLine i } :=
    .of_removal (Update.agenda _).one rfl rfl fun e he other =>
      ⟨e, (mem_removeLine _ _ _).2 ⟨he, fun same => other (by rw [same])⟩, rfl⟩
  unfold State.removeLineEntries
  dsimp only
  split
  · next none =>
    refine awaitOk_quiet h (.of_updates (Update.agenda _).one rfl rfl (.of_subset fun e he => ?_))
    have unnamed : e.line ≠ i := by
      have := List.filter_eq_nil_iff.1 (List.isEmpty_iff.1 none) e he
      simpa using this
    exact (mem_removeLine _ _ _).2 ⟨he, unnamed⟩
  · exact awaitOk_tested h removed

end

end Sys2Proof.Machine
end

section
/-! While the await timer runs the condition of the deferred AWAIT is false: matches, the Capture Queue, the timebase, and
every move (R184 to R187). -/

namespace Sys2Proof.Machine

open Sys2Proof.Safety

section
variable {s t : State} {k : RuleId} {r : FollowRule} {c : Capture}

/-! ## A match -/

theorem quiet_missRule (reason : MissReason) : Quiet s (s.missRule k r reason c) :=
  .of_updates (s.missRule_updates k r reason c) (by simp) (by simp)
    (by rw [State.missRule_agenda]; exact .refl _ _)

theorem quiet_countFire : Quiet s (s.countFire k r) :=
  .of_updates (s.countFire_updates k r) (by simp) (by simp) (by rw [State.countFire_agenda]; exact .refl _ _)

theorem quiet_placeFire (due : Stamp) : Quiet s (s.placeFire k r due) := by
  unfold State.placeFire
  split
  · exact quiet_insertEntry _
  · dsimp only
    split
    · exact quiet_actOn _ _
    · exact (quiet_actOn _ _).trans (quiet_insertEntry _)

theorem quiet_tryFire (due : Stamp) : Quiet s (s.tryFire k r due c).1 := by
  unfold State.tryFire
  split
  · exact quiet_missRule _
  · exact (quiet_placeFire due).trans quiet_countFire

/-- A match that removed the rule's old entry tests AGENDA_EMPTY after it placed the new one (R186). -/
theorem awaitOk_matchRule (tables : TablesOk s) (h : AwaitOk s) : AwaitOk (s.matchRule k r c).1 := by
  unfold State.matchRule
  dsimp only
  split
  · exact awaitOk_quiet h (quiet_missRule _)
  · split
    · exact awaitOk_quiet h (quiet_missRule _)
    · unfold State.retriggerTest
      split
      · exact awaitOk_quiet h (quiet_tryFire _)
      · exact awaitOk_quiet h (quiet_missRule _)
      · next e found _ =>
        have held := (Agenda.find_some found).1
        have removed : QuietUntil (.removal e.line) s (s.retrigger e) := by
          refine .of_removal (s.retrigger_updates e) (by simp) (by simp) fun x hx other => ?_
          refine ⟨x, mem_retrigger.2 ⟨hx, fun same => other ?_⟩, rfl⟩
          rw [tables.agenda.eq_of_tag held hx same]
        exact awaitOk_tested h (removed.trans (quiet_tryFire _).on)

/-! ## The Capture Queue -/

/-- A write of the queue under which no more is unread. -/
theorem quiet_queue {q : CaptureQueue} (unread : q.unread ≤ s.queue.unread) : Quiet s { s with queue := q } :=
  .of_blocks rfl (.refl _ _) unread rfl id

/-- Only the unread count can make a condition true by an append, and it is tested (R186). -/
theorem awaitOk_appendEntry (h : AwaitOk s) (entry : Half → QueueEntry) : AwaitOk (s.appendEntry entry) := by
  rw [State.appendEntry]
  have update : Updates s ({ s with queue := s.queue.append entry } : State).noteReady.noteWatermark :=
    ((Update.queue _).one.trans (State.noteReady_updates _)).trans (State.noteWatermark_updates _)
  have link : ({ s with queue := s.queue.append entry } : State).noteReady.noteWatermark.link = s.link := by simp
  have agenda : ({ s with queue := s.queue.append entry } : State).noteReady.noteWatermark.agenda = s.agenda := by simp
  generalize ({ s with queue := s.queue.append entry } : State).noteReady.noteWatermark = u at update link agenda ⊢
  refine awaitOk_tested h ⟨by rw [link], fun c untested holds => ?_⟩
  cases c with
  | agendaEmpty line => rwa [AwaitCondition.holds, ← agenda]
  | unreadAtLeast n => cases untested
  | timeReached x => rwa [AwaitCondition.holds, ← update.timebase]
  | holdClear => rwa [AwaitCondition.holds, ← update.timebase]

theorem awaitOk_takeCapture {fired : List RuleId} (h : AwaitOk s) : AwaitOk (s.takeCapture c fired) := by
  unfold State.takeCapture
  split
  · exact awaitOk_appendEntry h _
  · unfold State.loseCapture
    split
    · exact awaitOk_quiet h (quiet_queue (Nat.le_refl _))
    · exact awaitOk_quiet h (.of_blocks rfl (.refl _ _) (Nat.le_refl _) rfl id)

/-- A read moves the read pointer forward or leaves it (R62). -/
theorem CaptureQueue.read_unread {q : CaptureQueue} (h : QueueOk q) {first : Nat} (max : Nat)
    (within : first < q.entries.length ∨ first = q.position q.readPointer) : (q.read first max).unread ≤ q.unread := by
  have limit := h.1
  have pointer : q.position q.readPointer ≤ q.entries.length := h.2.2.1
  have length := q.run_length first max
  unfold CaptureQueue.read
  dsimp only
  split
  · exact Nat.le_refl _
  · change (q.advancePointer (first + (q.run first max).length)).unread ≤ q.unread
    unfold CaptureQueue.advancePointer
    split
    · next forward =>
      have moved := q.position_head_add (k := first + (q.run first max).length) (by omega)
      change q.entries.length - q.position (q.head + BitVec.ofNat 16 (first + (q.run first max).length)) ≤ _
      rw [moved, CaptureQueue.unread]
      omega
    · exact Nat.le_refl _

/-- A release leaves what is unread (R66). -/
theorem CaptureQueue.release_unread {q : CaptureQueue} (h : QueueOk q) {p : Nat} (held : p < q.entries.length)
    (read : p < q.position q.readPointer) : (q.release p).unread = q.unread := by
  have pointer : q.position q.readPointer ≤ q.entries.length := h.2.2.1
  rw [CaptureQueue.unread, show (q.release p).readPointer = q.readPointer from rfl,
    CaptureQueue.release_position h held read, CaptureQueue.unread]
  simp only [CaptureQueue.release, List.length_drop]
  omega

theorem awaitOk_releaseThrough (h : AwaitOk s) (queue : QueueOk s.queue) {p : Nat} (held : p < s.queue.entries.length)
    (read : p < s.queue.position s.queue.readPointer) : AwaitOk (s.releaseThrough p) := by
  have unread := (CaptureQueue.release_unread queue held read).le
  have released : AwaitOk { s with queue := s.queue.release p } := awaitOk_quiet h (quiet_queue unread)
  have reported : AwaitOk { s with queue := { s.queue.release p with loss := none } } :=
    awaitOk_quiet h (quiet_queue (q := { s.queue.release p with loss := none }) unread)
  unfold State.releaseThrough State.appendGap
  split
  · next loss _ => exact awaitOk_appendEntry reported fun q => .gap q loss.count loss.first
  · exact released

/-! ## The timebase -/

theorem awaitOk_zeroTime (h : AwaitOk s) : AwaitOk s.zeroTime := by
  refine awaitOk_tested h ⟨rfl, fun c untested holds => ?_⟩
  cases c with
  | timeReached x => cases untested
  | agendaEmpty line => exact holds
  | unreadAtLeast n => exact holds
  | holdClear => exact holds

theorem awaitOk_leaveHold (h : AwaitOk s) : AwaitOk s.leaveHold := by
  unfold State.leaveHold
  refine awaitOk_tested h ⟨?_, fun c untested holds => ?_⟩
  · rw [State.raise_link]
    dsimp only
    split <;> rfl
  · cases c with
    | holdClear => cases untested
    | agendaEmpty line => dsimp only at holds; split at holds <;> exact holds
    | unreadAtLeast n => dsimp only at holds; split at holds <;> exact holds
    | timeReached x => dsimp only at holds; split at holds <;> exact holds

theorem awaitOk_changeReasons (h : AwaitOk s) (r : HoldReasons) : AwaitOk (s.changeReasons r) := by
  rcases s.changeReasons_cases r with ⟨-, held, e⟩ | ⟨-, e⟩ | e | ⟨-, held, e⟩ <;> rw [e]
  · refine awaitOk_quiet h (.of_blocks (by simp) ?_ (by simp) (by rw [State.enterHold_timebase]) ?_)
    · rw [State.enterHold_agenda]
      exact .refl _ _
    · rw [State.enterHold_timebase]
      exact fun clear => absurd clear (by simp [held])
  · exact awaitOk_leaveHold h
  · exact h
  · exact awaitOk_quiet h (.of_blocks rfl (.refl _ _) (Nat.le_refl _) rfl fun clear => absurd clear (by simp [held]))

theorem quiet_enterStarted : Quiet s s.enterStarted :=
  .of_blocks (by simp) (by rw [State.enterStarted_agenda]; exact .refl _ _) (by simp) (State.enterStarted_time _)
    (by rw [State.enterStarted_reasons]; exact id)

theorem quiet_stopTime : Quiet s s.stopTime :=
  .of_blocks (by simp) (by rw [State.stopTime_agenda]; exact .refl _ _) (by simp) (State.stopTime_time _)
    (by rw [State.stopTime_reasons]; exact id)

theorem quiet_setTimebase (p n : Nat) (g : Bool) : Quiet s (s.setTimebase p n g) :=
  .of_blocks (by simp) (by rw [State.setTimebase_agenda]; exact .refl _ _) (by simp) (State.setTimebase_time _ _ _ _)
    (by rw [State.setTimebase_reasons]; exact id)

/-! ## The tick -/

theorem awaitOk_untilExpiries (h : AwaitOk s) (pins : Half) : AwaitOk (s.untilExpiries pins) := by
  have counted : AwaitOk ((s.countTick pins).awaitTest .tick) := by
    refine awaitOk_tested h ⟨rfl, fun c untested holds => ?_⟩
    cases c with
    | timeReached x => cases untested
    | agendaEmpty line => exact holds
    | unreadAtLeast n => exact holds
    | holdClear =>
      rw [AwaitCondition.holds, State.countTick_timebase, Timebase.advance_reasons] at holds
      exact holds
  rw [State.untilExpiries]
  exact awaitOk_quiet counted (.of_updates (State.patternSteps_updates _ _ _) (State.patternSteps_link _ _ _)
    (State.patternSteps_queue _ _ _) (by rw [State.patternSteps_agenda]; exact .refl _ _))

theorem awaitOk_runTick (tables : TablesOk s) (h : AwaitOk s) (pins : Half) : AwaitOk (s.runTick pins) := by
  obtain ⟨expired, waits⟩ := tables.expireDue (P := AwaitOk) awaitOk_expire pins (awaitOk_untilExpiries h pins)
  have sampled : AwaitOk (s.untilExpiries pins).expireDue.sampleAll := waits
  exact (expired.qualify (P := AwaitOk) (fun tables _ _ => awaitOk_matchRule tables) awaitOk_takeCapture sampled).2

/-! ## Every move -/

theorem awaitOk_effect (queue : QueueOk s.queue) (tables : TablesOk s) (h : AwaitOk s) (e : Effect s t) : AwaitOk t := by
  cases e with
  | startZero => exact awaitOk_quiet (awaitOk_zeroTime h) quiet_enterStarted
  | start => exact awaitOk_quiet h quiet_enterStarted
  | stop => exact awaitOk_quiet h quiet_stopTime
  | setTimebase p n g => exact awaitOk_quiet h (quiet_setTimebase p n g)
  | reasons r => exact awaitOk_changeReasons h r
  | reconfigure i m =>
    have removed := awaitOk_removeLineEntries h i
    exact awaitOk_quiet removed (.of_blocks rfl (.refl _ _) (Nat.le_refl _) rfl id)
  | read first max within => exact awaitOk_quiet h (quiet_queue (CaptureQueue.read_unread queue max within))
  | release p held read => exact awaitOk_releaseThrough h queue held read
  | watermark w => exact awaitOk_quiet h (quiet_queue (Nat.le_refl _))
  | schedule batch => exact awaitOk_carryOuts batch h
  | cancel e complete held =>
    unfold State.cancelEntry
    split
    · exact awaitOk_dropEntry (awaitOk_quiet h (quiet_actOn _ _)) (tables.agenda.actOn _ _) held
    · exact awaitOk_dropEntry h tables.agenda held
  | cancelLine i => exact awaitOk_removeLineEntries h i
  | clearRule k =>
    unfold State.clearRule
    split
    · next e found =>
      have dropped := awaitOk_dropEntry h tables.agenda (Agenda.find_some found).1
      exact awaitOk_quiet dropped (.of_blocks rfl (.refl _ _) (Nat.le_refl _) rfl id)
    · exact awaitOk_quiet h (.of_blocks rfl (.refl _ _) (Nat.le_refl _) rfl id)
  | unchanged => exact h
  | present | clearCounters | writeSlot | clearPattern | rule | acknowledge | configure =>
    exact awaitOk_quiet h (.of_blocks rfl (.refl _ _) (Nat.le_refl _) rfl id)

theorem State.transmit_waitsFor (s : State) : s.transmit.link.waitsFor = s.link.waitsFor := by
  by_cases idle : s.link.tx = .idle
  · cases offered : s.offered with
    | none => rw [State.transmit_none offered]
    | some f =>
      rw [State.transmit_idle idle offered]
      cases f <;> rfl
  · rw [State.transmit_busy idle]

theorem State.noticeSent_waitsFor (s : State) : s.noticeSent.link.waitsFor = s.link.waitsFor := by
  unfold State.noticeSent
  split <;> rfl

/-- A period keeps the condition waited for. -/
theorem Link.countPeriod_waitsFor (l : Link) : l.countPeriod.waitsFor = l.waitsFor := by
  unfold Link.waitsFor Link.awaiting Link.countPeriod
  cases hd : l.deferred with
  | none => rfl
  | some d => cases ht : d.timer <;> simp [Option.filter, ht]

theorem awaitOk_move (queue : QueueOk s.queue) (tables : TablesOk s) (h : AwaitOk s) (m : Move s t) : AwaitOk t := by
  cases m with
  | effect e => exact awaitOk_effect queue tables h e
  | tick pins => exact awaitOk_runTick tables h pins
  | transmit =>
    exact awaitOk_quiet h (.of_blocks s.transmit_waitsFor (by rw [State.transmit_agenda]; exact .refl _ _) (by simp)
      (by simp) (by simp))
  | noticeSent =>
    exact awaitOk_quiet h (.of_blocks s.noticeSent_waitsFor (by rw [State.noticeSent_agenda]; exact .refl _ _) (by simp)
      (by simp) (by simp))
  | period =>
    exact awaitOk_quiet h (.of_blocks s.link.countPeriod_waitsFor (.refl _ _) (Nat.le_refl _) rfl id)
  | awaitExpiry =>
    unfold State.awaitExpiry
    split
    · exact awaitOk_of_none (State.awaiting_answerDeferred _ _ _)
    · exact h
  | deferredDone f => exact awaitOk_of_none rfl
  | defer seq check c timeout range free waits =>
    rw [awaitOk_iff]
    rintro _ ⟨⟩
    exact waits
  | outside | receiver | counters | store | reply | record | restart | replyDone | endFrame | repeatExpiry =>
    exact awaitOk_quiet h (.of_blocks rfl (.refl _ _) (Nat.le_refl _) rfl id)

theorem awaitOk_atReset (r : AtReset s) : AwaitOk s := by
  refine awaitOk_of_none ?_
  rw [r.link]
  rfl

end

end Sys2Proof.Machine
end

section
/-! The power state, and the model's whole invariant. -/

namespace Sys2Proof.Machine

open Sys2Proof.Safety

section
variable {s t : State}

/-! ## The power state (R193) -/

/-- A request leaves the power state alone. -/
theorem Effect.power (e : Effect s t) : t.power = s.power := by
  cases e with
  | release p => exact (s.releaseThrough_updates p).power
  | schedule batch => exact (Updates.foldl State.carryOut_updates batch s).power
  | clearRule k => exact (s.clearRule_updates k).power
  | unchanged | present | clearCounters | start | startZero | stop | setTimebase | reasons | reconfigure | writeSlot
    | clearPattern | read | watermark | cancel | cancelLine | rule | acknowledge | configure => simp

/-- Nothing but a reset writes the power state. -/
theorem Move.power (m : Move s t) : t.power = s.power := by
  cases m with
  | effect e => exact e.power
  | tick pins =>
    obtain ⟨u, before, after⟩ := s.runTick_updates pins
    exact after.power.trans before.power
  | transmit => exact State.transmit_power _
  | noticeSent => exact State.noticeSent_power _
  | awaitExpiry => exact State.awaitExpiry_power _
  | outside | receiver | counters | store | reply | record | restart | defer | replyDone | deferredDone | endFrame
    | repeatExpiry | period => rfl

theorem Moves.power (m : Moves s t) : t.power = s.power :=
  m.keep (P := fun u => u.power = s.power) (fun hs m => m.power.trans hs) rfl

/-- Outside a hardware reset the power state has its reset value. -/
theorem powerOk_of_alive (alive : s.power.inReset = false) : PowerOk s ↔ s.power = .reset := by
  rw [PowerOk, if_neg (by simp [alive])]

theorem powerOk_of_power (h : PowerOk s) (alive : s.power.inReset = false) (same : t.power = s.power) : PowerOk t := by
  rw [powerOk_of_alive alive] at h
  rwa [powerOk_of_alive (by rw [same, alive]), same]

/-- Every step keeps the power state: a hardware reset holds every block at its reset values until it ends. -/
theorem step_keeps_powerOk (hs : PowerOk s) (h : step s = .next t) : PowerOk t := by
  cases step_stepped h with
  | moves alive m => exact powerOk_of_power hs alive m.power
  | nothing queue => exact hs
  | begun p queue => exact ⟨rfl, rfl, rfl, rfl, rfl, rfl, rfl, rfl⟩
  | ended _ power m =>
    rcases power with cleared | ⟨same, alive⟩
    · rw [powerOk_of_alive] <;> rw [m.power, cleared]
      rfl
    · exact powerOk_of_power hs alive (m.power.trans same)

/-! ## The deferred AWAIT -/

/-- What the invariant of the deferred AWAIT needs of the other blocks. -/
structure WaitsOk (s : State) : Prop where
  queue : QueueOk s.queue
  tables : TablesOk s
  await : AwaitOk s

theorem WaitsOk.move (h : WaitsOk s) (m : Move s t) : WaitsOk t :=
  ⟨queueOk_move h.queue m, h.tables.move m, awaitOk_move h.queue h.tables h.await m⟩

theorem waitsOk_atReset (r : AtReset s) : WaitsOk s :=
  ⟨r.queue ▸ queueOk_reset, tablesOk_atReset r, awaitOk_atReset r⟩

/-- Every step keeps the queue, the agenda and the rules, and with them the deferred AWAIT's condition false. -/
theorem step_keeps_waitsOk (hs : WaitsOk s) (h : step s = .next t) : WaitsOk t :=
  step_keeps WaitsOk.move waitsOk_atReset hs h

end

end Sys2Proof.Machine

namespace Sys2Proof.Claims

open Sys2Proof.Machine Sys2Proof.Safety

/-- Settles O60, block by block: each part of the invariant is kept by every move, and the reset values satisfy it. -/
theorem stepKeepsTheInvariant : Obligations.StepKeepsTheInvariant := by
  rintro s t ⟨timebase, lines, qualifiers, queue, agenda, rules, notices, link, await, power⟩ h
  obtain ⟨queue', tables', await'⟩ := step_keeps_waitsOk ⟨queue, tablesOk_iff.2 ⟨agenda, rules⟩, await⟩ h
  obtain ⟨agenda', rules'⟩ := tablesOk_iff.1 tables'
  exact ⟨stepKeepsTheTimebase s t timebase h, step_keeps_linesOk lines h, step_keeps_qualifiersOk qualifiers h, queue',
    agenda', rules', step_keeps_noticesOk notices h, step_keeps_linkOk link h, await', step_keeps_powerOk power h⟩

end Sys2Proof.Claims
end

section
/-! The lines: their invariant, what an action does to a drive line and what its pin shows, and SET_LINE. -/

namespace Sys2Proof.Machine

open Sys2Proof.Safety

/-! ## The level of a drive line (R25, R31) -/

section
variable {s : State} {i : LineId} {idle : Level} {h : HoldAction}

/-- A drive line's levels, as the hold reasons ask (R22, R31). -/
theorem levelsOk_of_drive (ok : LinesOk s) (drive : (s.line i).mode = .drive idle h) : LevelsOk s.inHold (s.line i) :=
  (driveOk_of_lineOk (ok i) (by rw [Line.isDrive, drive]; rfl)).1

theorem Line.act_level {l : Line} (a : LevelAction) {v : Level} (unsaved : l.saved = none) (level : l.level = some v) :
    l.act a = { l with level := some (a.apply v) } := by
  simp only [Line.act, unsaved, level, Option.map_some]

theorem Line.act_saved {l : Line} (a : LevelAction) {v : Level} (saved : l.saved = some v) :
    l.act a = { l with saved := some (a.apply v) } := by
  simp only [Line.act, saved]

theorem State.pinShown_alive (alive : s.power.inReset = false) : s.pinShown i = (s.line i).shown :=
  if_neg (by simp [alive])

/-- Outside hold the pin shows the line level (R25). -/
theorem Line.shown_level {l : Line} (drive : l.mode = .drive idle h) (unsaved : l.saved = none) : l.shown = l.level := by
  simp [Line.shown, drive, unsaved]

/-- During hold the pin shows what the hold action asks (R31). -/
theorem Line.shown_held {l : Line} (drive : l.mode = .drive idle h) {saved frozen : Level} (hs : l.saved = some saved)
    (hf : l.frozen = some frozen) :
    l.shown = match h with
      | .freeze => some frozen
      | .forceLow => some .low
      | .forceHigh => some .high := by
  cases h <;> simp [Line.shown, drive, hs, hf]

/-- A line level stands outside hold, alone. -/
theorem level_of_drive (ok : LinesOk s) (drive : (s.line i).mode = .drive idle h) (out : s.inHold = false) :
    (∃ l, (s.line i).level = some l) ∧ (s.line i).saved = none := by
  obtain ⟨level, saved, -⟩ := levelsOk_of_drive ok drive
  rw [out] at level saved
  exact ⟨Option.isSome_iff_exists.1 level, by simpa using saved⟩

/-- A saved and a frozen level stand during hold. -/
theorem held_of_drive (ok : LinesOk s) (drive : (s.line i).mode = .drive idle h) (during : s.inHold = true) :
    (∃ saved, (s.line i).saved = some saved) ∧ ∃ frozen, (s.line i).frozen = some frozen := by
  obtain ⟨-, saved, frozen⟩ := levelsOk_of_drive ok drive
  rw [during] at saved frozen
  exact ⟨Option.isSome_iff_exists.1 saved, Option.isSome_iff_exists.1 frozen⟩

end

/-! ## The settings SET_LINE takes (R27) -/

theorem readCapturePolarity_eq_some {b : Byte} {p : CapturePolarity} : readCapturePolarity b = some p ↔ p.code = b := by
  constructor
  · intro h
    unfold readCapturePolarity at h
    split at h <;> cases h <;> rfl
  · rintro rfl
    cases p <;> rfl

theorem readLevel_eq_some {b : Byte} {l : Level} : readLevel b = some l ↔ l.code = b := by
  constructor
  · intro h
    unfold readLevel at h
    split at h <;> cases h <;> rfl
  · rintro rfl
    cases l <;> rfl

theorem readHoldAction_eq_some {b : Byte} {h : HoldAction} : readHoldAction b = some h ↔ h.code = b := by
  constructor
  · intro e
    unfold readHoldAction at e
    split at e <;> cases e <;> rfl
  · rintro rfl
    cases h <;> rfl

theorem byte_le_two {b : Byte} (h : b.toNat ≤ 2) : b = 0 ∨ b = 1 ∨ b = 2 := by bv_omega

theorem readCapturePolarity_isSome (b : Byte) : (readCapturePolarity b).isSome = true ↔ b.toNat ≤ 2 := by
  simp only [Option.isSome_iff_exists, readCapturePolarity_eq_some]
  constructor
  · rintro ⟨p, rfl⟩
    cases p <;> decide
  · intro h
    obtain rfl | rfl | rfl := byte_le_two h
    exacts [⟨.rise, rfl⟩, ⟨.fall, rfl⟩, ⟨.both, rfl⟩]

theorem readHoldAction_isSome (b : Byte) : (readHoldAction b).isSome = true ↔ b.toNat ≤ 2 := by
  simp only [Option.isSome_iff_exists, readHoldAction_eq_some]
  constructor
  · rintro ⟨h, rfl⟩
    cases h <;> decide
  · intro h
    obtain rfl | rfl | rfl := byte_le_two h
    exacts [⟨.freeze, rfl⟩, ⟨.forceLow, rfl⟩, ⟨.forceHigh, rfl⟩]

theorem readLevel_isSome (b : Byte) : (readLevel b).isSome = true ↔ b.toNat ≤ 1 := by
  simp only [Option.isSome_iff_exists, readLevel_eq_some]
  constructor
  · rintro ⟨l, rfl⟩
    cases l <;> decide
  · intro h
    obtain rfl | rfl : b = 0 ∨ b = 1 := by bv_omega
    exacts [⟨.low, rfl⟩, ⟨.high, rfl⟩]

section
variable {mode polarity : Byte} {filter : Half} {idle holdAction : Byte} {m : LineMode}

theorem readMode_capture : readMode 1 polarity filter idle holdAction = some m
    ↔ ∃ p, readCapturePolarity polarity = some p ∧ filter.toNat ≤ 1023 ∧ m = .capture p filter.toNat := by
  cases h : readCapturePolarity polarity with
  | none => simp [readMode, h]
  | some p => simp [readMode, h, eq_comm]

theorem readMode_drive : readMode 2 polarity filter idle holdAction = some m
    ↔ ∃ l h, readLevel idle = some l ∧ readHoldAction holdAction = some h ∧ m = .drive l h := by
  cases hl : readLevel idle with
  | none => simp [readMode, hl]
  | some l =>
    cases hh : readHoldAction holdAction with
    | none => simp [readMode, hl, hh]
    | some h => simp [readMode, hl, hh, eq_comm]

theorem readMode_capture_isSome :
    (readMode 1 polarity filter idle holdAction).isSome = true ↔ polarity.toNat ≤ 2 ∧ filter.toNat ≤ 1023 := by
  rw [← readCapturePolarity_isSome, Option.isSome_iff_exists, Option.isSome_iff_exists]
  simp only [readMode_capture]
  constructor
  · rintro ⟨-, p, hp, hf, -⟩
    exact ⟨⟨p, hp⟩, hf⟩
  · rintro ⟨⟨p, hp⟩, hf⟩
    exact ⟨_, p, hp, hf, rfl⟩

theorem readMode_drive_isSome :
    (readMode 2 polarity filter idle holdAction).isSome = true ↔ idle.toNat ≤ 1 ∧ holdAction.toNat ≤ 2 := by
  rw [← readLevel_isSome, ← readHoldAction_isSome]
  simp only [Option.isSome_iff_exists, readMode_drive]
  constructor
  · rintro ⟨-, l, h, hl, hh, -⟩
    exact ⟨⟨l, hl⟩, h, hh⟩
  · rintro ⟨⟨l, hl⟩, h, hh⟩
    exact ⟨_, l, h, hl, hh, rfl⟩

theorem readMode_other (h : 2 < mode.toNat) : readMode mode polarity filter idle holdAction = none := by
  unfold readMode
  split
  · simp at h
  · simp at h
  · simp at h
  · rfl

end

/-! ## SET_LINE (R27 to R29) -/

section
variable {line mode polarity : Byte} {filter : Half} {idle holdAction : Byte} {s : State}

/-- Without the guard set, or outside hold, no request is held back (R18). -/
theorem guarded_eq_false (h : s.timebase.holdGuard = false ∨ s.timebase.reasons = ⟨false, false⟩) :
    s.guarded = false := by
  rcases h with guard | reasons
  · simp [State.guarded, guard]
  · simp [State.guarded, reasons, HoldReasons.isEmpty]

theorem setLineRequest_badField (h : 16 ≤ line.toNat ∨ readMode mode polarity filter idle holdAction = none) :
    setLineRequest line mode polarity filter idle holdAction s = refuse .badField s := by
  rcases h with line | mode
  · rw [setLineRequest, readLine, dif_neg (by omega)]
  · rw [setLineRequest, mode]
    cases readLine line <;> rfl

theorem setLineRequest_taken {i : LineId} {m : LineMode} (hi : readLine line = some i)
    (hm : readMode mode polarity filter idle holdAction = some m) (unguarded : s.guarded = false) :
    setLineRequest line mode polarity filter idle holdAction s
      = accept (.voided (s.agenda.onLine i).length) (s.reconfigure i m) := by
  rw [setLineRequest, hi, hm]
  exact if_neg (by simp [unguarded])

/-- Removing a line's entries, as the statements write it. -/
theorem State.removeLineEntries_eq (s : State) (i : LineId) :
    s.removeLineEntries i
      = (let cut := { s with agenda := { s.agenda with entries := s.agenda.entries.filter fun e => e.line != i } }
        if (s.agenda.entries.filter fun e => e.line == i) = [] then cut else cut.awaitTest (.removal i)) := by
  simp only [State.removeLineEntries, List.isEmpty_iff]
  rfl

/-- R29's table, field by field. -/
theorem freshLine_eq (m : LineMode) (hold : Bool) :
    freshLine m hold
      = { mode := m
          level := match m with
            | .drive l _ => if hold then none else some l
            | _ => none
          saved := match m with
            | .drive l _ => if hold then some l else none
            | _ => none
          frozen := match m with
            | .drive l _ => if hold then some l else none
            | _ => none
          slotA := none, slotB := none, active := .noSlot, takeover := none } := by
  cases m with
  | off => rfl
  | capture => rfl
  | drive l h => cases hold <;> rfl

/-- The removal of the entries leaves the blocks that the later steps of R28 write as they were. -/
theorem State.reconfigure_eq (s : State) (i : LineId) (m : LineMode) :
    s.reconfigure i m = { s.removeLineEntries i with
      qualifiers := s.qualifiers.set i .reset
      lines := s.lines.set i (freshLine m s.inHold) } := by
  have hold : (s.removeLineEntries i).inHold = s.inHold := by rw [State.inHold, State.removeLineEntries_timebase]; rfl
  rw [← State.removeLineEntries_qualifiers s i, ← State.removeLineEntries_lines s i, ← hold]
  rfl

end

end Sys2Proof.Machine

namespace Sys2Proof.Claims

open Sys2Proof.Machine Sys2Proof.Safety

/-- Settles O56. -/
theorem stepKeepsTheLines : Obligations.StepKeepsTheLines := fun _ _ hs h => step_keeps_linesOk hs h

/-- Settles O26: outside hold the line level is the one present, during it the saved and the frozen level are. -/
theorem driveLineLevels : Obligations.DriveLineLevels := by
  refine ⟨fun _ => ⟨rfl, rfl, rfl, rfl⟩, fun _ => ⟨rfl, rfl, rfl, rfl⟩, fun s i a idle h ok drive alive => ⟨?_, ?_⟩⟩
  · intro out
    obtain ⟨⟨l, level⟩, unsaved⟩ := level_of_drive ok drive out
    refine ⟨l, level, ?_, ?_⟩
    · rw [State.pinShown_alive alive, Line.shown_level drive unsaved, level]
    · rw [State.actOn, Line.act_level a unsaved level]
  · intro during
    obtain ⟨⟨saved, hs⟩, frozen, hf⟩ := held_of_drive ok drive during
    refine ⟨saved, frozen, hs, hf, ?_, ?_⟩
    · rw [State.pinShown_alive alive, Line.shown_held drive hs hf]
      cases h <;> rfl
    · rw [State.actOn, Line.act_saved a hs]

/-- Settles O27: the line reconfigured with the number of entries removed, the settings of each mode, the refusals. -/
theorem setLineChecksAndReconfigures : Obligations.SetLineChecksAndReconfigures := by
  refine ⟨?_, fun mode polarity filter idle holdAction => ⟨rfl, readMode_other, readMode_capture_isSome,
    readMode_drive_isSome, fun m hm => ?_, fun m hm => ?_⟩, ?_⟩
  · intro seq line mode polarity filter idle holdAction i m s takes hi hm guard
    refine exec_answered (r := .setLine line mode polarity filter idle holdAction) 0 (by simp) rfl takes ?_
    refine (setLineRequest_taken hi hm (guarded_eq_false guard)).trans ?_
    rw [State.reconfigure_eq, freshLine_eq, State.removeLineEntries_eq]
    rfl
  · obtain ⟨p, hp, -, rfl⟩ := readMode_capture.1 hm
    exact ⟨p, rfl, readCapturePolarity_eq_some.1 hp⟩
  · obtain ⟨l, h, hl, hh, rfl⟩ := readMode_drive.1 hm
    exact ⟨l, h, rfl, readLevel_eq_some.1 hl, readHoldAction_eq_some.1 hh⟩
  · intro seq line mode polarity filter idle holdAction s takes bad
    exact exec_answered (r := .setLine line mode polarity filter idle holdAction) 0 (by simp) rfl takes
      (setLineRequest_badField bad)

end Sys2Proof.Claims
end

section
/-! READ_LINES, LIST_AGENDA and READ_FOLLOW: what each reports. -/

namespace Sys2Proof.Claims

open Sys2Proof.Machine Sys2Proof.Safety

/-- The level a line drives, as the statements give it (R25, R31). -/
theorem driven_eq_shown (l : Line) : driven l = l.shown := by
  unfold driven Line.shown
  cases l.mode with
  | off => rfl
  | capture => rfl
  | drive idle h => cases l.saved <;> cases h <;> rfl

/-- A line's report when `pins` is presented: a pin shows what its line drives, else what is presented (R23, R24, R37). -/
theorem lineRecord_present (s : State) (pins : Half) (i : LineId) :
    (s.present pins).lineRecord i =
      { mode := (s.line i).mode
        pin := match driven (s.line i) with
          | some level => level
          | none => levelOn pins i
        saved := (s.line i).saved, active := (s.line i).active, takeover := (s.line i).takeover } := by
  have found : (s.present pins).pinFound i = (s.line i).shown.getD (levelOn pins i) := rfl
  rw [State.lineRecord, found, driven_eq_shown]
  cases (s.line i).shown <;> rfl

/-- READ_LINES reads the lines with the levels it presents. -/
theorem exec_readLines {seq : Byte} {s : State} (pins : Half) (takes : Takes s seq .readLines) :
    exec (.readLines seq pins) s
      = .next (answered (s.present pins) seq .readLines (okay (.lines (lineIds.map (s.present pins).lineRecord)))) := by
  obtain ⟨alive, waits, free, new⟩ := takes
  exact submit_answered (h := fun _ s => readLinesRequest (s.present pins)) rfl alive waits free new rfl

/-- LIST_AGENDA takes a count of 1 to 12 (R97). -/
theorem listAgendaRequest_eq (first count : Byte) (s : State) :
    listAgendaRequest first count s
      = if 1 ≤ count.toNat ∧ count.toNat ≤ 12 then
          accept (.agenda s.timebase.time s.agenda.entries.length
            ((s.agenda.entries.drop first.toNat).take count.toNat)) s
        else refuse .badField s := by
  unfold listAgendaRequest
  split
  · exact (if_neg (by omega)).symm
  · exact (if_pos (by omega)).symm

/-- A rule's report, as the statements give it (R139). -/
theorem ruleRecord_eq_reported (s : State) (k : RuleId) : s.ruleRecord k = reported s k := by
  unfold State.ruleRecord reported
  cases s.rule k with
  | none => rfl
  | some r =>
    have entry : (s.agenda.find (followTag k)).map (fun e => (e.phase, e.due))
        = match s.agenda.entries.find? fun e => e.tag == 0xF000 + BitVec.ofNat 16 k.val with
          | some e => some (e.phase, e.due)
          | none => none := by
      rw [Agenda.find, followTag]
      cases s.agenda.entries.find? _ <;> rfl
    obtain ⟨status, settings, shots, fires, misses⟩ := r
    dsimp only
    rw [entry]
    cases status <;> rfl

/-- Settles O10: each of the three answers with the state it found, READ_LINES with the levels presented. -/
theorem readRequestsReportAndChangeNothing : Obligations.ReadRequestsReportAndChangeNothing := by
  intro seq s
  refine ⟨fun pins takes => ?_, fun first count takes => ?_, fun id takes => ?_⟩
  · rw [exec_readLines pins takes]
    rw [funext (lineRecord_present s pins)]
    rfl
  · have respond {t : State} {reply : Reply} (h : listAgendaRequest first count s = (t, some reply)) :
        exec (.listAgenda seq first count) s = .next (answered t seq (.listAgenda first count) reply) :=
      exec_answered 0 (by simp) rfl takes h
    rw [listAgendaRequest_eq] at respond
    split
    · next range => exact respond (if_pos range)
    · next range => exact respond (if_neg range)
  · have respond {t : State} {reply : Reply} (h : readFollowRequest id s = (t, some reply)) :
        exec (.readFollow seq id) s = .next (answered t seq (.readFollow id) reply) :=
      exec_answered 0 (by simp) rfl takes h
    split
    · next k hk =>
      refine respond ?_
      rw [readFollowRequest, hk, ← ruleRecord_eq_reported]
      rfl
    · next hk => exact respond (by rw [readFollowRequest, hk]; rfl)

end Sys2Proof.Claims
end

section
/-! One sample of a capture qualifier (R40 to R45), and the captures of a tick in line order (R46, R47). -/

namespace Sys2Proof.Machine

/-! ## Edges and what a polarity takes (R41, R42) -/

theorem edgeOf_eq_some {last level : Level} {edge : Edge}
    (h : (edge = .rise ∧ last = .low ∧ level = .high) ∨ (edge = .fall ∧ last = .high ∧ level = .low)) :
    edgeOf last level = some edge := by
  obtain ⟨rfl, rfl, rfl⟩ | ⟨rfl, rfl, rfl⟩ := h <;> rfl

theorem edgeOf_self (level : Level) : edgeOf level level = none := by cases level <;> rfl

/-- R42's table, row by row. -/
theorem CapturePolarity.accepts_iff (polarity : CapturePolarity) (edge : Edge) :
    polarity.accepts edge = true
      ↔ polarity = .both ∨ (polarity = .rise ∧ edge = .rise) ∨ (polarity = .fall ∧ edge = .fall) := by
  cases polarity <;> cases edge <;> decide

/-! ## An edge and a tick without one (R43, R44) -/

section
variable {polarity : CapturePolarity} {filter : Nat} {now : Stamp} {edge : Edge}

theorem takeEdge_atOnce (taken : polarity.accepts edge = true) :
    takeEdge polarity 0 now edge = (.waiting, some (edge, now)) := by rw [takeEdge, if_pos taken, if_pos rfl]

theorem takeEdge_candidate (taken : polarity.accepts edge = true) (filtered : filter ≠ 0) :
    takeEdge polarity filter now edge = (.qualifying edge now filter, none) := by
  rw [takeEdge, if_pos taken, if_neg filtered]

theorem takeEdge_refused (refused : ¬ polarity.accepts edge = true) :
    takeEdge polarity filter now edge = (.waiting, none) := if_neg refused

theorem holdLevel_counting {stamp : Stamp} {r : Nat} (h : 2 ≤ r) :
    holdLevel (.qualifying edge stamp r) = (.qualifying edge stamp (r - 1), none) := if_neg (by omega)

/-! ## One sample (R40, R45) -/

variable {last level : Level} {st : QualState}

theorem Qualifier.sample_edge (h : edgeOf last level = some edge) :
    Qualifier.sample { state := st, last := some last } polarity filter now level
      = ({ state := (takeEdge polarity filter now edge).1, last := some level },
          (takeEdge polarity filter now edge).2) := by
  simp only [Qualifier.sample, h]

theorem Qualifier.sample_same :
    Qualifier.sample { state := st, last := some level } polarity filter now level
      = ({ state := (holdLevel st).1, last := some level }, (holdLevel st).2) := by
  simp only [Qualifier.sample, edgeOf_self]

end

/-! ## The captures of a tick (R46, R47) -/

/-- TL0 first. -/
theorem lineIds_ascending : lineIds.Pairwise fun i j => i.val < j.val := by decide

theorem mem_lineIds (i : LineId) : i ∈ lineIds := by
  revert i
  decide

theorem State.captureAt_line {s : State} {i : LineId} {c : Capture} (h : s.captureAt i = some c) : c.line = i := by
  obtain ⟨-, -, rfl⟩ := Option.map_eq_some_iff.1 h
  rfl

/-- A line's capture stands in the tick's captures behind those of lower lines and before those of higher ones (R47). -/
theorem State.capturesNow_split {s : State} {i : LineId} {c : Capture} (h : s.captureAt i = some c) :
    ∃ before rest : List Capture, s.capturesNow = before ++ c :: rest
      ∧ (∀ d ∈ before, d.line.val < i.val) ∧ ∀ d ∈ rest, i.val < d.line.val := by
  obtain ⟨lower, higher, split⟩ := List.append_of_mem (mem_lineIds i)
  have ascending := lineIds_ascending
  rw [split, List.pairwise_append, List.pairwise_cons] at ascending
  obtain ⟨-, ⟨above, -⟩, below⟩ := ascending
  refine ⟨lower.filterMap s.captureAt, higher.filterMap s.captureAt, ?_, fun d hd => ?_, fun d hd => ?_⟩
  · rw [State.capturesNow, split, List.filterMap_append, List.filterMap_cons_some h]
  · obtain ⟨j, hj, captured⟩ := List.mem_filterMap.1 hd
    rw [State.captureAt_line captured]
    exact below j hj i List.mem_cons_self
  · obtain ⟨j, hj, captured⟩ := List.mem_filterMap.1 hd
    rw [State.captureAt_line captured]
    exact above j hj

/-- A line's sample reads its mode, its qualifier, T and the levels, which the writes before it in a tick leave alone. -/
theorem Updates.sampleAt {s t : State} (u : Updates s t) (i : LineId) : t.sampleAt i = s.sampleAt i := by
  simp only [State.sampleAt, sampleLine, u.mode, u.qualifiers, u.timebase, u.inputs]

end Sys2Proof.Machine

namespace Sys2Proof.Claims

open Sys2Proof.Machine

/-- Settles O30: the first sample; an edge, by whether the polarity takes it and by the filter; a tick without an edge,
by the candidate's count. -/
theorem qualifierTakesASample : Obligations.QualifierTakesASample := by
  intro polarity filter now last level st
  refine ⟨rfl, rfl, fun edge step => ?_, ?_⟩
  · rw [Qualifier.sample_edge (edgeOf_eq_some step), ← CapturePolarity.accepts_iff]
    refine ⟨?_, fun taken filtered => ?_, fun refused => ?_⟩
    · rintro taken rfl
      rw [takeEdge_atOnce taken]
      exact ⟨rfl, rfl⟩
    · rw [takeEdge_candidate taken filtered]
      exact ⟨rfl, rfl⟩
    · rw [takeEdge_refused refused]
      exact ⟨rfl, rfl⟩
  · rintro rfl
    rw [Qualifier.sample_same]
    refine ⟨?_, ?_, ?_⟩
    · rintro rfl
      exact ⟨rfl, rfl⟩
    · rintro p stamp r rfl counting
      rw [holdLevel_counting counting]
      exact ⟨rfl, rfl⟩
    · rintro p stamp rfl
      exact ⟨rfl, rfl⟩

/-- A line's sample at T, as the statements give it (R39). -/
theorem sampleAt_eq_sampled (s : State) (i : LineId) : s.sampleAt i = sampled s i s.timebase.time s.inputs := by
  unfold State.sampleAt sampleLine sampled
  cases (s.line i).mode <;> rfl

/-- The sample of a capture line at the tick that finds `pins`. -/
theorem sampleAt_countTick {s : State} {i : LineId} {polarity : CapturePolarity} {filter : Nat}
    (mode : (s.line i).mode = .capture polarity filter) (pins : Half) :
    (s.countTick pins).sampleAt i
      = (s.qualifiers.get i).sample polarity filter (s.timebase.time + 1) (levelOn pins i) := by
  rw [sampleAt_eq_sampled, State.countTick_timebase, State.countTick_inputs, advance_eq_ticked, ticked_time, sampled,
    State.countTick_qualifiers]
  have same : ((s.countTick pins).line i).mode = .capture polarity filter := mode
  rw [same]

/-- The parts of a tick before its qualifications leave the samples as the counts made them. -/
theorem untilExpiries_updates (s : State) (pins : Half) : Updates (s.countTick pins) (untilExpiries s pins) := by
  rw [untilExpiries, ← advance_eq_ticked]
  exact ((Update.await _).one.trans (State.patternSteps_updates _ _ _)).trans (State.expireDue_updates _)

theorem exec_captureQualified {s : State} {line : LineId} (pins : Half) (alive : s.power.inReset = false)
    (running : s.timebase.state = .running) (qualifies : ((s.countTick pins).captureAt line).isSome = true) :
    exec (.captureQualified line pins) s = .next (untilExpiries s pins).qualify.transmit := by
  rw [← runTick_eq]
  exact eventIf_next (fun s => s.isRunning && ((s.countTick pins).captureAt line).isSome) _ s alive
    (by simp [State.isRunning, running, qualifies])

/-- Settles O31: the samples and captures of any state, and the tick's captures split at the line's own. -/
theorem capturesAreHandedOverInLineOrder : Obligations.CapturesAreHandedOverInLineOrder := by
  refine ⟨fun s => ⟨⟨_, rfl, fun i => ?_⟩, ?_, rfl⟩, ?_⟩
  · rw [Bank.get_mapEach, sampleAt_eq_sampled]
  · refine congrArg (lineIds.filterMap ·) (funext fun i => ?_)
    rw [State.captureAt, sampleAt_eq_sampled]
    cases (sampled s i s.timebase.time s.inputs).2 <;> rfl
  · intro pins s line polarity filter edge stamp alive running mode qualifies
    have counted : (s.countTick pins).captureAt line = some ⟨line, edge, stamp⟩ := by
      rw [State.captureAt, sampleAt_countTick mode, levelOn, qualifies]
      rfl
    have captured : (untilExpiries s pins).captureAt line = some ⟨line, edge, stamp⟩ := by
      rw [State.captureAt, (untilExpiries_updates s pins).sampleAt]
      exact counted
    obtain ⟨before, rest, split, lower, higher⟩ := State.capturesNow_split captured
    refine ⟨before, rest, split, lower, higher, ?_⟩
    rw [exec_captureQualified pins alive running (by rw [counted]; rfl), State.qualify, split, List.foldl_append,
      List.foldl_cons]
    rfl

end Sys2Proof.Claims
end

section
/-! The Capture Queue takes a capture (R55 to R59), an append's notices (R69, R70), READ_CAPTURES, RELEASE_CAPTURES and
SET_QUEUE (R61 to R72), and SET_NOTICES (R156). -/

namespace Sys2Proof.Machine

/-! ## Appending (R55, R57, R69, R70) -/

/-- A position is a difference modulo 2^16 (R56). -/
theorem CaptureQueue.position_eq (q : CaptureQueue) (x : Half) :
    q.position x = (x.toNat + 2 ^ 16 - q.head.toNat) % 2 ^ 16 := by
  rw [CaptureQueue.position, BitVec.toNat_sub]
  omega

/-- A flag that is disarmed where it is armed and `p` holds. -/
theorem disarm_eq_and (p : Prop) [Decidable p] (flag : Bool) :
    (if p ∧ flag = true then false else flag) = (flag && !decide p) := by
  by_cases h : p <;> cases flag <;> simp [h]

/-- CAPTURE_READY and its flag (R69); nothing else. -/
theorem State.noteReady_eq (s : State) :
    s.noteReady = { s with
      queue := { s.queue with
        readyFlag := if s.queue.unread = 1 ∧ s.queue.readyFlag = true then false else s.queue.readyFlag }
      notices := if s.queue.unread = 1 ∧ s.queue.readyFlag = true then
          s.notices.raise s.timebase.time (.captureReady 1 s.queue.head)
        else s.notices } := by
  unfold State.noteReady
  split <;> rfl

/-- QUEUE_WATERMARK and its flag (R70); nothing else. -/
theorem State.noteWatermark_eq (s : State) :
    s.noteWatermark = { s with
      queue := { s.queue with
        watermarkFlag :=
          if s.queue.unread = s.queue.watermark ∧ 1 ≤ s.queue.watermark ∧ s.queue.watermarkFlag = true then false
          else s.queue.watermarkFlag }
      notices :=
        if s.queue.unread = s.queue.watermark ∧ 1 ≤ s.queue.watermark ∧ s.queue.watermarkFlag = true then
          s.notices.raise s.timebase.time (.queueWatermark s.queue.watermark)
        else s.notices } := by
  unfold State.noteWatermark
  split <;> rfl

/-- The queue after an append: the entry, and the flags its notices disarm (R69, R70). -/
theorem State.appendEntry_queue (s : State) (entry : Half → QueueEntry) :
    (s.appendEntry entry).queue =
      { s.queue.append entry with
        readyFlag := s.queue.readyFlag && !decide ((s.queue.append entry).unread = 1)
        watermarkFlag := s.queue.watermarkFlag
          && !decide ((s.queue.append entry).unread = s.queue.watermark ∧ 1 ≤ s.queue.watermark) } := by
  rw [State.appendEntry, State.awaitTest_queue, State.noteWatermark_eq, State.noteReady_eq, ← disarm_eq_and,
    ← disarm_eq_and]
  simp only [and_assoc]
  rfl

theorem State.takeCapture_room {s : State} (room : s.queue.entries.length < 256) (c : Capture) (fired : List RuleId) :
    s.takeCapture c fired = s.appendEntry fun q => .capture q c.line c.polarity c.stamp fired := if_pos room

theorem State.takeCapture_full {s : State} (full : s.queue.entries.length = 256) (c : Capture) (fired : List RuleId) :
    s.takeCapture c fired = s.loseCapture c := if_neg full.not_lt

/-! ## READ_CAPTURES (R61, R62) -/

/-- The read pointer after a read: the greater of its place and the run's end, where an entry is returned (R62). -/
def CaptureQueue.pointerAfter (q : CaptureQueue) (first max : Nat) : Half :=
  if q.run first max = [] then q.readPointer
  else if q.position q.readPointer < first + (q.run first max).length then
    q.head + BitVec.ofNat 16 (first + (q.run first max).length)
  else q.readPointer

section
variable {q : CaptureQueue} {x : Half}

theorem CaptureQueue.readStart_out (out : q.entries.length ≤ q.position x) : q.readStart true x = none :=
  if_neg out.not_gt

theorem CaptureQueue.readStart_held (held : ¬ q.entries.length ≤ q.position x) :
    q.readStart true x = some (q.position x) := if_pos (Nat.not_le.1 held)

end

/-- A read writes the pointer, and arms the flags by the unread count that follows from it (R62, R69, R71). -/
theorem CaptureQueue.read_eq (q : CaptureQueue) (first max : Nat) :
    q.read first max = { q with readPointer := q.pointerAfter first max }.rearm := by
  unfold CaptureQueue.read CaptureQueue.pointerAfter CaptureQueue.advancePointer
  cases q.run first max <;> rfl

section
variable {source max : Byte} {x : Half} {s : State}

theorem readCapturesRequest_badField (bad : (source ≠ 0 ∧ source ≠ 1) ∨ max.toNat < 1 ∨ 16 < max.toNat) :
    readCapturesRequest source x max s = refuse .badField s := by
  unfold readCapturesRequest
  split
  · rfl
  · next flag =>
    refine if_pos (bad.resolve_left fun range => ?_)
    rw [Claims.readFlag_eq_none.2 range] at flag
    cases flag

variable (range : ¬ (max.toNat < 1 ∨ 16 < max.toNat))
include range

theorem readCapturesRequest_notInQueue {byQseq : Bool} (selector : readFlag source = some byQseq)
    (start : s.queue.readStart byQseq x = none) : readCapturesRequest source x max s = refuse .notInQueue s := by
  simp only [readCapturesRequest, selector, if_neg range, start]

theorem readCapturesRequest_accepted {byQseq : Bool} {first : Nat} (selector : readFlag source = some byQseq)
    (start : s.queue.readStart byQseq x = some first) :
    readCapturesRequest source x max s
      = capturesReply (s.queue.run first max.toNat)
          { s with queue := { s.queue with readPointer := s.queue.pointerAfter first max.toNat }.rearm } := by
  simp only [readCapturesRequest, selector, if_neg range, start, CaptureQueue.read_eq]

end

/-! ## RELEASE_CAPTURES (R65 to R67) -/

section
variable {s : State}

theorem State.releaseThrough_of_none (h : s.queue.loss = none) (p : Nat) :
    s.releaseThrough p = { s with queue := s.queue.release p } := by
  have kept : (s.queue.release p).loss = none := h
  simp only [State.releaseThrough, State.appendGap, kept]

theorem State.releaseThrough_of_some {l : PendingLoss} (h : s.queue.loss = some l) (p : Nat) :
    s.releaseThrough p
      = { s with queue := { s.queue.release p with loss := none } }.appendEntry fun q => .gap q l.count l.first := by
  have kept : (s.queue.release p).loss = some l := h
  simp only [State.releaseThrough, State.appendGap, kept]

theorem CaptureQueue.release_length (q : CaptureQueue) (p : Nat) :
    (q.release p).entries.length = q.entries.length - (p + 1) := List.length_drop

/-- The entries held after a release: those behind the position, and the GAP entry of a pending loss (R66, R67). -/
theorem State.releaseThrough_held (s : State) (p : Nat) :
    (s.releaseThrough p).queue.entries.length
      = s.queue.entries.length - (p + 1) + if s.queue.loss.isSome then 1 else 0 := by
  cases loss : s.queue.loss with
  | none =>
    rw [State.releaseThrough_of_none loss]
    exact s.queue.release_length p
  | some l =>
    rw [State.releaseThrough_of_some loss, State.appendEntry_queue, ← s.queue.release_length p]
    exact List.length_append

end

/-! ## SET_QUEUE and SET_NOTICES (R72, R156) -/

theorem CaptureQueue.setWatermark_eq (q : CaptureQueue) (w : Nat) :
    q.setWatermark w = { q with watermark := w, watermarkFlag := decide (w = 0 ∨ q.unread < w) } := by
  rw [CaptureQueue.setWatermark, Bool.decide_or]
  rfl

/-- SET_NOTICES with an interval of 0 removes the marks and stops the timer, with another restarts it where a record is
SENT (R156). -/
theorem NoticeQueue.configure_eq (q : NoticeQueue) (mask interval : Byte) :
    q.configure mask interval = { q with
      mask := mask, interval := interval
      records := if interval = 0 then q.records.map fun n => { n with mark := false } else q.records
      timer := if interval ≠ 0 ∧ (∃ n ∈ q.records, n.sent = true) then some 0 else none } := by
  have sent : q.anySent = true ↔ ∃ n ∈ q.records, n.sent = true := List.any_eq_true
  unfold NoticeQueue.configure
  by_cases off : interval = 0
  · simp only [off, if_true, ne_eq, not_true, false_and, if_false]
    rfl
  · simp only [off, if_false, ne_eq, not_false_eq_true, true_and, ← sent]
    rfl

/-- SET_NOTICES adds and removes no record. -/
theorem NoticeQueue.configure_length (q : NoticeQueue) (mask interval : Byte) :
    (q.configure mask interval).records.length = q.records.length := by
  rw [NoticeQueue.configure_eq]
  dsimp only
  split
  · exact List.length_map _
  · rfl

end Sys2Proof.Machine

namespace Sys2Proof.Claims

open Sys2Proof.Machine Sys2Proof.Safety

/-- Settles O57: every move of a step keeps the queue, and the reset values satisfy it. -/
theorem stepKeepsTheCaptureQueue : Obligations.StepKeepsTheCaptureQueue := fun _ _ hs h => step_keeps_queueOk hs h

/-- Settles O32: the positions, a capture with room and without, and the notices of any append. -/
theorem queueTakesCaptures : Obligations.QueueTakesCaptures := by
  refine ⟨fun q => ⟨?_, q.position_eq, rfl⟩, fun s c fired => ⟨?_, ?_, ?_, ?_⟩, fun s entry => ?_⟩
  · rw [CaptureQueue.head]
    cases q.entries with
    | nil => rfl
    | cons e rest => cases e <;> rfl
  · exact fun room => State.takeCapture_room room c fired
  · intro room
    rw [State.takeCapture_room room]
    refine ⟨_, rfl, ?_⟩
    rw [State.appendEntry_queue]
    exact ⟨rfl, rfl, rfl, rfl, rfl, rfl, rfl⟩
  · intro full none
    rw [State.takeCapture_full full, State.loseCapture, none]
    rfl
  · intro p full some
    rw [State.takeCapture_full full, State.loseCapture, some]
    rfl
  · rw [State.appendEntry, State.noteWatermark_eq, State.noteReady_eq]
    rfl

/-- Settles O33: BAD_FIELD, then NEXT, which every queue accepts, and QSEQ, by whether the entry is held. -/
theorem readCapturesReturnsARun : Obligations.ReadCapturesReturnsARun := by
  intro seq source max x s takes
  have respond {t : State} {reply : Reply} (h : readCapturesRequest source x max s = (t, some reply)) :
      exec (.readCaptures seq source x max) s = .next (answered t seq (.readCaptures source x max) reply) :=
    exec_answered 0 (by simp) rfl takes h
  dsimp only
  split
  · next bad => exact respond (readCapturesRequest_badField bad)
  next good =>
  obtain ⟨selector, range⟩ := not_or.1 good
  obtain rfl | rfl : source = 0 ∨ source = 1 := by tauto
  · rw [if_neg (by simp)]
    exact respond (readCapturesRequest_accepted range rfl rfl)
  · split
    · next out => exact respond (readCapturesRequest_notInQueue range rfl (CaptureQueue.readStart_out out.2))
    · next held =>
      have start := CaptureQueue.readStart_held fun out => held ⟨rfl, out⟩
      exact respond (readCapturesRequest_accepted range rfl start)

/-- Settles O34: the two checks, then the release with its GAP. -/
theorem releaseCapturesRemovesReadEntries : Obligations.ReleaseCapturesRemovesReadEntries := by
  intro seq x s takes guard
  have respond {t : State} {reply : Reply} (h : releaseCapturesRequest x s = (t, some reply)) :
      exec (.releaseCaptures seq x) s = .next (answered t seq (.releaseCaptures x) reply) :=
    exec_answered 0 (by simp) rfl takes h
  have unguarded : ¬ s.guarded = true := by simp [guarded_eq_false guard]
  dsimp only
  split
  · next out => exact respond ((if_neg unguarded).trans (if_pos out))
  next held =>
  split
  · next unread => exact respond ((if_neg unguarded).trans ((if_neg held).trans (if_pos unread)))
  next read =>
  rw [← State.releaseThrough_held]
  refine (respond ((if_neg unguarded).trans ((if_neg held).trans (if_neg read)))).trans ?_
  split
  · next loss =>
    rw [State.releaseThrough_of_none loss]
    rfl
  · next l loss =>
    rw [State.releaseThrough_of_some loss]
    rfl

/-- Settles O44: SET_QUEUE by its range, SET_NOTICES by its interval. -/
theorem settingRequestsSetOnlyTheirFields : Obligations.SettingRequestsSetOnlyTheirFields := by
  refine ⟨fun seq w s takes => ?_, fun seq mask interval s takes => ?_⟩
  · have respond {t : State} {reply : Reply} (h : setQueueRequest w s = (t, some reply)) :
        exec (.setQueue seq w) s = .next (answered t seq (.setQueue w) reply) :=
      exec_answered 0 (by simp) rfl takes h
    split
    · next out => exact respond (if_pos out)
    · next range =>
      refine respond ((if_neg range).trans ?_)
      rw [CaptureQueue.setWatermark_eq]
      rfl
  · refine exec_answered (r := .setNotices mask interval) 0 (by simp) rfl takes ?_
    change noticesReply { s with notices := s.notices.configure mask interval } = _
    rw [← s.notices.configure_length mask interval, NoticeQueue.configure_eq]
    rfl

end Sys2Proof.Claims
end

section
/-! The Edge Agenda between steps, its fired history, and the expiries of a tick. -/

namespace Sys2Proof.Machine

/-! ## Finding an entry (R77) -/

/-- With no tag twice, an entry held is the one its tag finds. -/
theorem Agenda.find_of_mem {a : Agenda} {e : AgendaEntry} (tags : (a.entries.map (·.tag)).Nodup) (held : e ∈ a.entries) :
    a.find e.tag = some e := by
  cases found : a.find e.tag with
  | none => exact absurd rfl (Agenda.find_none found e held)
  | some x =>
    obtain ⟨hx, same⟩ := Agenda.find_some found
    rw [List.inj_on_of_nodup_map tags hx held same]

/-! ## The fired history (R92) -/

theorem recordTag_fresh {tag : Half} {history : List Half} (fresh : tag ∉ history) :
    recordTag tag history = tag :: history.take 15 := by
  have kept : history.filter (· != tag) = history :=
    List.filter_eq_self.2 fun t ht => bne_iff_ne.2 fun same => fresh (same ▸ ht)
  rw [recordTag, kept]
  rfl

/-- An older record goes, so that nothing has to make room. -/
theorem recordTag_again {tag : Half} {history : List Half} (full : history.length ≤ 16) (held : tag ∈ history) :
    recordTag tag history = tag :: history.filter fun t => t != tag := by
  have shorter : (history.filter (· != tag)).length < history.length :=
    List.length_filter_lt_length_iff_exists.2 ⟨tag, held, by simp⟩
  rw [recordTag, List.take_of_length_le]
  simp only [Config.historyCapacity]
  omega

/-! ## Expiries (R87 to R91) -/

/-- EDGE_DONE writes the notices alone. -/
theorem State.edgeDone_eq (s : State) (e : AgendaEntry) (p : Phase) :
    s.edgeDone e p = { s with
      notices := if e.report then s.notices.raise s.timebase.time (.edgeDone e.tag e.line s.timebase.time p)
        else s.notices } := by
  unfold State.edgeDone State.raiseIf
  split <;> rfl

/-- The commands of an expiry occur at the tick that reaches the entry's due. -/
theorem State.expiresNext_of_held {s : State} {e : AgendaEntry} {p : Action → Phase → Bool}
    (running : s.timebase.state = .running) (tags : (s.agenda.entries.map (·.tag)).Nodup) (held : e ∈ s.agenda.entries)
    (due : e.due = s.timebase.time + 1) (kind : p e.action e.phase = true) : s.expiresNext p e.tag = true := by
  have next : s.dueNext e.tag = some e := by
    rw [State.dueNext, Agenda.find_of_mem tags held]
    simp [State.isRunning, running, due]
  rw [State.expiresNext, next]
  exact kind

end Sys2Proof.Machine

namespace Sys2Proof.Claims

open Sys2Proof.Machine Sys2Proof.Safety

/-- Settles O58: the agenda and the rules are kept together. -/
theorem stepKeepsTheAgenda : Obligations.StepKeepsTheAgenda := fun _ _ agenda rules h =>
  tablesOk_iff.1 (step_keeps_tablesOk (tablesOk_iff.2 ⟨agenda, rules⟩) h)

/-- Settles O25: a record held before is taken out, which leaves room; a new one takes the oldest one's place. -/
theorem firedHistoryKeepsSixteen : Obligations.FiredHistoryKeepsSixteen := by
  refine fun tag history full distinct => ⟨recordTag_length tag history, recordTag_nodup tag distinct, rfl,
    fun held => ?_, fun fresh => ?_⟩
  · rw [recordTag_again full held, List.tail_cons]
  · rw [recordTag_fresh fresh, List.tail_cons]

/-- One expiry as the statements give it: by the action and the phase. -/
theorem expire_eq_expired (s : State) (e : AgendaEntry) : s.expire e = expired s e := by
  obtain ⟨tag, line, due, action, phase, origin, report⟩ := e
  cases action with
  | single a =>
    change State.expireSingle s _ = _
    rw [State.expireSingle, State.edgeDone_eq]
    rfl
  | pulse level width =>
    cases phase with
    | lead =>
      change State.expireLead s _ width = _
      rw [State.expireLead, State.edgeDone_eq]
      rfl
    | trail =>
      change State.expireTrail s _ = _
      rw [State.expireTrail, State.edgeDone_eq]
      rfl

theorem expireDue_eq (s : State) :
    s.expireDue = (s.agenda.entries.filter fun e => e.due == s.timebase.time).foldl expired s :=
  congrFun (congrFun (congrArg List.foldl (funext₂ expire_eq_expired)) s) s.dueNow

theorem untilExpiries_eq_beforeExpiries (s : State) (pins : Half) : s.untilExpiries pins = beforeExpiries s pins := by
  rw [beforeExpiries, ← advance_eq_ticked]
  rfl

/-- The entries due at the next tick are those that stand at T + 1 before it. -/
theorem beforeExpiries_due (s : State) (pins : Half) :
    ((beforeExpiries s pins).agenda.entries.filter fun x => x.due == (beforeExpiries s pins).timebase.time)
      = s.agenda.entries.filter fun x => x.due == s.timebase.time + 1 := by
  rw [← untilExpiries_eq_beforeExpiries, State.untilExpiries_agenda, (s.untilExpiries_updates pins).timebase,
    State.countTick_timebase, Timebase.advance_time]

/-- Settles O24: the entry splits the list of those due, and each of the three commands is the tick. -/
theorem expiriesInAgendaOrder : Obligations.ExpiriesInAgendaOrder := by
  refine ⟨expireDue_eq, fun pins s e alive running tags held due => ?_⟩
  have isDue : e ∈ s.agenda.entries.filter fun x => x.due == s.timebase.time + 1 :=
    List.mem_filter.2 ⟨held, beq_iff_eq.2 due⟩
  rw [← beforeExpiries_due s pins] at isDue
  obtain ⟨before, rest, split⟩ := List.append_of_mem isDue
  have tick : s.runTick pins
      = (rest.foldl expired (expired (before.foldl expired (beforeExpiries s pins)) e)).qualify := by
    rw [State.runTick_eq_untilExpiries, untilExpiries_eq_beforeExpiries, expireDue_eq, split, List.foldl_append,
      List.foldl_cons]
  have expires {p : Action → Phase → Bool} (kind : p e.action e.phase = true) :
      eventIf (State.expiresNext p e.tag) (·.runTick pins) s = .next (s.runTick pins).transmit :=
    eventIf_next _ _ s alive (State.expiresNext_of_held running tags held due kind)
  refine ⟨before, rest, split, ?_⟩
  dsimp only
  rw [← tick]
  split
  · next single => exact expires (p := fun a _ => !a.isPulse) (by rw [single]; rfl)
  · next pulse lead => exact expires (p := fun a p => a.isPulse && p == .lead) (by rw [pulse, lead]; rfl)
  · next pulse trail => exact expires (p := fun a p => a.isPulse && p == .trail) (by rw [pulse, trail]; rfl)

end Sys2Proof.Claims
end

section
/-! CANCEL and CANCEL_LINE, as their statements give them. -/

namespace Sys2Proof.Machine

/-! ## CANCEL (R93, R94) -/

section
variable {tag : Half} {complete : Byte} {s : State}

theorem cancelRequest_badField (bad : complete ≠ 0 ∧ complete ≠ 1) :
    cancelRequest tag complete s = refuse .badField s := by
  rw [cancelRequest, Claims.readFlag_eq_none.2 bad]

/-- A cancelled request looks for its tag once the flag and the guard have passed (R93). -/
theorem cancelRequest_taken (range : ¬(complete ≠ 0 ∧ complete ≠ 1)) (unguarded : s.guarded = false) :
    (0xF008 ≤ tag.toNat → cancelRequest tag complete s = refuse .tagReserved s)
    ∧ (¬ 0xF008 ≤ tag.toNat →
      (∀ e, s.agenda.find tag = some e → cancelRequest tag complete s
        = refuseWith .cancelled (.cancelled e.phase) (s.cancelEntry e (complete == 1)))
      ∧ (s.agenda.find tag = none → cancelRequest tag complete s
        = refuse (if tag ∈ s.agenda.history then .alreadyFired else .notFound) s)) := by
  have unheld : ¬ s.guarded = true := by simp [unguarded]
  rw [cancelRequest, Claims.readFlag_of_range (by tauto)]
  dsimp only
  rw [if_neg unheld]
  refine ⟨fun reserved => if_pos reserved, fun free => ?_⟩
  rw [if_neg free]
  refine ⟨fun e found => by rw [found], fun absent => ?_⟩
  simp only [absent, List.contains_eq_mem, decide_eq_true_eq]
  split <;> rfl

/-- The trail of a pulse in TRAIL when asked for, the removal, the test of the deferred AWAIT (R94, R186). -/
theorem State.cancelEntry_eq (s : State) (e : AgendaEntry) (complete : Byte) :
    s.cancelEntry e (complete == 1)
      = (let cut := { s with agenda := { s.agenda with entries := s.agenda.entries.filter fun x => x.tag != e.tag } }
        let t := if complete = 1 ∧ e.phase = .trail then
            { cut with lines := s.lines.set e.line ((s.line e.line).act e.action.trailAction) }
          else cut
        t.awaitTest (.removal e.line)) := by
  simp only [State.cancelEntry, Bool.and_eq_true, beq_iff_eq]
  split <;> rfl

/-! ## CANCEL_LINE (R96) -/

theorem cancelLineRequest_taken {line : Byte} {i : LineId} (hi : readLine line = some i) (unguarded : s.guarded = false) :
    cancelLineRequest line s = accept (.removed (s.agenda.onLine i).length) (s.removeLineEntries i) := by
  rw [cancelLineRequest, hi]
  exact if_neg (by simp [unguarded])

theorem cancelLineRequest_badField {line : Byte} (out : 16 ≤ line.toNat) :
    cancelLineRequest line s = refuse .badField s := by
  rw [cancelLineRequest, readLine, dif_neg (by omega)]

end

end Sys2Proof.Machine

namespace Sys2Proof.Claims

open Sys2Proof.Machine Sys2Proof.Safety

/-- Settles O37: the checks of CANCEL in their order and its removal; CANCEL_LINE's removal and its range check. -/
theorem cancelRequestsRemoveEntries : Obligations.CancelRequestsRemoveEntries := by
  refine ⟨fun seq complete tag s takes guard => ?_, fun seq line i s takes hi guard => ?_,
    fun seq line s takes out => ?_⟩
  · have respond {t : State} {reply : Reply} (h : cancelRequest tag complete s = (t, some reply)) :
        exec (.cancel seq tag complete) s = .next (answered t seq (.cancel tag complete) reply) :=
      exec_answered 0 (by simp) rfl takes h
    dsimp only
    split
    · next bad => exact respond (cancelRequest_badField bad)
    next range =>
    obtain ⟨tagReserved, looked⟩ := cancelRequest_taken (tag := tag) range (guarded_eq_false guard)
    split
    · next reserved => exact respond (tagReserved reserved)
    next free =>
    obtain ⟨cancelled, missing⟩ := looked free
    split
    · next e found =>
      refine respond ((cancelled e found).trans ?_)
      rw [State.cancelEntry_eq]
      rfl
    · next absent => exact respond (missing absent)
  · refine exec_answered (r := .cancelLine line) 0 (by simp) rfl takes ?_
    refine (cancelLineRequest_taken hi (guarded_eq_false guard)).trans ?_
    rw [State.removeLineEntries_eq]
    rfl
  · exact exec_answered (r := .cancelLine line) 0 (by simp) rfl takes (cancelLineRequest_badField out)

end Sys2Proof.Claims
end

section
/-! A fire of a follow rule: its edge, the rule's old entry, the counts and the test that ends it. -/

namespace Sys2Proof.Machine

open Sys2Proof.Safety Sys2Proof.Claims

/-! ## What the agenda's invariant gives (R78) -/

theorem Agenda.free_eq_zero {a : Agenda} : a.free = 0 ↔ 64 ≤ a.entries.length := by
  simp only [Agenda.free, Config.agendaCapacity]
  omega

section
variable {s : State} {k : RuleId} {r : FollowRule} {c : Capture}

/-! ## The counts (R136) -/

/-- An ARMED rule's fire, counted as the statements count it. -/
theorem FollowRule.countFire_eq (armed : r.status = .armed) :
    r.countFire = { r with
      fires := if r.fires < 4294967295 then r.fires + 1 else r.fires
      shotsRemaining := if r.settings.shots = 0 then r.shotsRemaining else r.shotsRemaining - 1
      status := if r.settings.shots ≠ 0 ∧ r.shotsRemaining - 1 = 0 then .spent else .armed } := by
  unfold FollowRule.countFire satInc32
  dsimp only
  split
  · next unlimited => simp [unlimited, armed]
  · next limited => simp [limited, armed]

theorem State.countFire_eq (s : State) (armed : r.status = .armed) : s.countFire k r = fireCounted s k r := by
  have spent : (r.countFire.status == .spent) = decide (r.settings.shots ≠ 0 ∧ r.shotsRemaining - 1 = 0) := by
    rw [FollowRule.countFire_eq armed]
    dsimp only
    split
    · next last => rw [decide_eq_true last]; rfl
    · next more => rw [decide_eq_false more]; rfl
  rw [State.countFire, spent, FollowRule.countFire_eq armed, State.raiseIf, fireCounted]
  simp only [decide_eq_true_eq]
  split <;> rfl

/-! ## The edge (R99, R136) -/

/-- The lines and the agenda after a fire's edge, in a state whose agenda no more holds an entry of the rule. -/
theorem State.placeFire_eq (s : State) (k : RuleId) (r : FollowRule) (due : Stamp) :
    s.placeFire k r due
      = (let now := s.timebase.time
        if classify due now = .future then
          { s with agenda := { s.agenda with entries := insertByDistance now (r.entry k due .lead) s.agenda.entries } }
        else match r.settings.action with
          | .single a => s.actOn r.settings.target a
          | .pulse level width =>
            { s with
              lines := (s.actOn r.settings.target level.action).lines
              agenda := { s.agenda with
                entries := insertByDistance now (r.entry k (now + width.setWidth 48) .trail) s.agenda.entries } }) := by
  unfold State.placeFire
  dsimp only
  split
  · rfl
  · cases r.settings.action <;> rfl

/-! ## The rule's old entry (R99, R100, R134) -/

/-- The state in which a fire places its edge: the rule's old entry, where it has one, has made way. -/
def State.cleared (s : State) (k : RuleId) : State :=
  match s.agenda.find (followTag k) with
  | some e => s.retrigger e
  | none => s

/-- The old entry's trail is given when it stood in TRAIL, and no other entry goes. -/
theorem State.cleared_eq (s : State) (k : RuleId) :
    s.cleared k
      = (let ended : State := match s.agenda.find (followTag k) with
          | some e => if e.phase = .trail then s.actOn e.line e.action.trailAction else s
          | none => s
        { s with
          lines := ended.lines
          agenda := { s.agenda with entries := s.agenda.entries.filter fun e => e.tag != followTag k } }) := by
  unfold State.cleared
  split
  · next e found =>
    rw [← (Agenda.find_some found).2, State.retrigger]
    split <;> rfl
  · next absent =>
    have others : (s.agenda.entries.filter fun e => e.tag != followTag k) = s.agenda.entries :=
      List.filter_eq_self.2 fun e he => bne_iff_ne.2 (Agenda.find_none absent e he)
    rw [others]

/-- An entry removed leaves room for the one that a fire inserts (R135). -/
theorem State.retrigger_free {e : AgendaEntry} (ok : AgendaOk s) (held : e ∈ s.agenda.entries) :
    (s.retrigger e).agenda.free ≠ 0 := by
  have same : (s.retrigger e).agenda = (s.removeEntry e.tag).agenda := by
    unfold State.retrigger
    split <;> rfl
  have room := removeEntry_length (agendaOk_iff.1 ok) held
  rw [same, Ne, Agenda.free_eq_zero]
  omega

/-! ## The fire (R132 to R136) -/

theorem State.tryFire_room {due : Stamp}
    (room : ¬((classify due s.timebase.time = .future ∨ r.settings.action.isPulse = true) ∧ s.agenda.free = 0)) :
    s.tryFire k r due c = ((s.placeFire k r due).countFire k r, true) := if_neg room

/-- No reason for a miss: the tests of R132 to R135, each passed. -/
theorem missReason_eq_none (h : missReason s k r c = none) :
    (s.line r.settings.target).isDrive = true
      ∧ ¬(classify (after c.stamp r.settings.delay) s.timebase.time ≠ .future ∧ r.settings.late = .miss)
      ∧ ¬((s.agenda.find (followTag k)).isSome = true ∧ r.settings.retrigger = .ignore)
      ∧ ¬(s.agenda.find (followTag k) = none
        ∧ (classify (after c.stamp r.settings.delay) s.timebase.time = .future ∨ r.settings.action.isPulse = true)
        ∧ s.agenda.free = 0) := by
  unfold missReason at h
  dsimp only at h
  split at h
  · cases h
  next drive =>
  split at h
  · cases h
  next late =>
  split at h
  · cases h
  next busy =>
  split at h
  · cases h
  next full =>
  rw [Agenda.free_eq_zero]
  rw [not_not] at full
  exact ⟨by simpa using drive, late, busy, full⟩

/-- A match without a reason to miss fires, and a removed entry's line is tested at its end (R136, R186). -/
theorem State.matchRule_fires (ok : AgendaOk s) (fires : missReason s k r c = none) :
    s.matchRule k r c
      = (testedAfter (s.agenda.find (followTag k))
          (((s.cleared k).placeFire k r (after c.stamp r.settings.delay)).countFire k r), true) := by
  obtain ⟨drive, late, busy, full⟩ := missReason_eq_none fires
  unfold State.matchRule
  dsimp only
  rw [if_neg (by simp [drive]), if_neg late]
  unfold State.retriggerTest State.cleared
  cases found : s.agenda.find (followTag k) with
  | none =>
    rw [found] at full
    exact State.tryFire_room fun need => full ⟨rfl, need⟩
  | some e =>
    have room := State.retrigger_free ok (Agenda.find_some found).1
    cases again : r.settings.retrigger with
    | ignore => exact absurd ⟨by rw [found]; rfl, again⟩ busy
    | restart =>
      dsimp only
      rw [State.tryFire_room fun need => room need.2]
      rfl

end

end Sys2Proof.Machine

namespace Sys2Proof.Claims

open Sys2Proof.Machine Sys2Proof.Safety

/-- Settles O41: the old entry makes way, the edge is placed, the fire is counted, and the removal is tested. -/
theorem firePlacesItsEdge : Obligations.FirePlacesItsEdge := by
  intro s k r c ok _ armed fires
  rw [State.matchRule_fires ok fires, State.countFire_eq _ armed, State.placeFire_eq, State.cleared_eq]
  rfl

end Sys2Proof.Claims
end

section
/-! SCHEDULE: the reading of its batch, and a batch that is carried out, as the statement gives it. -/

namespace Sys2Proof.Machine

open Sys2Proof.Claims

/-! ## Insertion by distance (R80) -/

/-- In an agenda kept nearest due first an insertion splits the entries at the new one's distance. -/
theorem insertByDistance_eq (now : Stamp) (e : AgendaEntry) (held : List AgendaEntry)
    (sorted : held.Pairwise fun a b => distance a.due now ≤ distance b.due now) :
    insertByDistance now e held
      = (held.filter fun x => distance x.due now ≤ distance e.due now) ++ e
        :: held.filter fun x => distance e.due now < distance x.due now := by
  induction held with
  | nil => rfl
  | cons x xs ih =>
    obtain ⟨first, sorted⟩ := List.pairwise_cons.1 sorted
    unfold insertByDistance
    split
    · next near => simp [ih sorted, near]
    · next far =>
      have beyond : ∀ y ∈ x :: xs, distance e.due now < distance y.due now := by
        refine List.forall_mem_cons.2 ⟨by omega, fun y hy => ?_⟩
        have := first y hy
        omega
      have none : (x :: xs).filter (fun y => distance y.due now ≤ distance e.due now) = [] :=
        List.filter_eq_nil_iff.2 fun y hy => by simpa using beyond y hy
      have all : (x :: xs).filter (fun y => distance e.due now < distance y.due now) = x :: xs :=
        List.filter_eq_self.2 fun y hy => by simpa using beyond y hy
      rw [none, all]
      rfl

/-! ## The batch read (R82) -/

theorem readBatch_ok {k : Nat} {orders : List RawOrder} {batch : List Order}
    (read : orders.map readOrder = batch.map some) : readBatch k orders = .ok batch := by
  induction orders generalizing k batch with
  | nil =>
    obtain rfl : batch = [] := by simpa using read.symm
    rfl
  | cons o rest ih =>
    cases batch with
    | nil => cases read
    | cons order tail =>
      obtain ⟨head, others⟩ := List.cons.inj read
      unfold readBatch
      rw [head]
      dsimp only
      rw [ih others]

/-- A batch of at most 8 orders fits a frame (R162). -/
theorem schedule_wellFormed {orders : List RawOrder} (few : orders.length ≤ 8) :
    (Request.schedule orders).wellFormed = true := by
  have bytes (o : RawOrder) : o.bytes.length = 15 := rfl
  have total : (orders.flatMap RawOrder.bytes).length = 15 * orders.length := by
    simp [List.length_flatMap, bytes, Nat.mul_comm]
  refine decide_eq_true ?_
  simp only [Request.payload, total, Config.payloadLimit]
  omega

section
variable {orders : List RawOrder} {batch : List Order} {s : State}

/-- A batch that is read goes through checks 2 to 7 (R83). -/
theorem scheduleRequest_read (nonempty : 1 ≤ orders.length) (few : orders.length ≤ 8)
    (read : orders.map readOrder = batch.map some) (unguarded : s.guarded = false) :
    (∀ code k, batchFault s batch = some (code, k) → scheduleRequest orders s = scheduleRefusal code k s)
    ∧ (batchFault s batch = none → scheduleRequest orders s
      = scheduledReply (batch.map (·.outcome s.timebase.time)) (batch.foldl State.carryOut s)) := by
  rw [scheduleRequest, if_neg (by omega), readBatch_ok read]
  dsimp only
  rw [if_neg (by simp [unguarded])]
  exact ⟨fun code k fault => by rw [fault], fun passed => by rw [passed]⟩

end

/-! ## An order carried out (R84, R85) -/

theorem State.carryOut_eq_orderDone (s : State) (o : Order) : s.carryOut o = orderDone s o := by
  obtain ⟨tag, line, due, action, fireNow, report⟩ := o
  unfold State.carryOut orderDone
  dsimp only
  split
  · rfl
  · cases action with
    | single a =>
      change State.edgeDone _ _ _ = _
      rw [State.edgeDone_eq]
      rfl
    | pulse level width =>
      change State.edgeDone _ _ _ = _
      rw [State.edgeDone_eq]
      rfl

end Sys2Proof.Machine

namespace Sys2Proof.Claims

open Sys2Proof.Machine Sys2Proof.Safety

/-- Settles O35: the insertion splits the agenda at the distance, and an accepted batch is carried out order by order. -/
theorem scheduleCarriesOutItsBatch : Obligations.ScheduleCarriesOutItsBatch := by
  refine ⟨insertByDistance_eq, fun seq orders batch s takes nonempty few read guard passed => ?_⟩
  refine exec_answered (r := .schedule orders) 0 (by simp) (schedule_wellFormed few) takes ?_
  refine ((scheduleRequest_read nonempty few read (guarded_eq_false guard)).2 passed).trans ?_
  rw [show State.carryOut = orderDone from funext₂ State.carryOut_eq_orderDone]
  rfl

end Sys2Proof.Claims
end

section
/-! SCHEDULE: the range of an order's fields, and its checks 2 to 7, each as the first index that fails it. -/

namespace Sys2Proof.Machine

open Sys2Proof.Claims

/-! ## An order's fields (R82, R195) -/

/-- The codes of an action; a pulse has a width (R195). -/
theorem readAction_isSome (code : Byte) (width : Span) :
    (readAction code width).isSome = true ↔ code.toNat ≤ 4 ∧ (3 ≤ code.toNat → width ≠ 0) := by
  unfold readAction
  split
  · simp
  · simp
  · simp
  · split <;> simp_all
  · split <;> simp_all
  · next h0 h1 h2 h3 h4 =>
    have out : ¬ code.toNat ≤ 4 := fun small => by
      have other (n : Nat) (hn : n < 256) (ne : code ≠ BitVec.ofNat 8 n) : code.toNat ≠ n := fun same =>
        ne (BitVec.eq_of_toNat_eq (by rw [same, BitVec.toNat_ofNat, Nat.mod_eq_of_lt hn]))
      have := other 0 (by decide) h0
      have := other 1 (by decide) h1
      have := other 2 (by decide) h2
      have := other 3 (by decide) h3
      have := other 4 (by decide) h4
      omega
    simp [out]

/-- An action read carries its code and, for a pulse, its width (R195). -/
theorem readAction_code {code : Byte} {width : Span} {a : Action} (h : readAction code width = some a) :
    a.code = code ∧ widthOf a = if 3 ≤ code.toNat then width.toNat else 0 := by
  unfold readAction at h
  split at h
  · cases h; exact ⟨rfl, rfl⟩
  · cases h; exact ⟨rfl, rfl⟩
  · cases h; exact ⟨rfl, rfl⟩
  · split at h
    · cases h
    · cases h; exact ⟨rfl, rfl⟩
  · split at h
    · cases h
    · cases h; exact ⟨rfl, rfl⟩
  · cases h

theorem readFlag_isSome_iff (b : Byte) : (readFlag b).isSome = true ↔ b.toNat ≤ 1 := by
  rw [readFlag_isSome, Bool.or_eq_true, beq_iff_eq, beq_iff_eq]
  bv_omega

theorem readOrder_isSome (o : RawOrder) :
    (readOrder o).isSome = true ↔ (readLine o.line).isSome = true ∧ (readAction o.action o.width).isSome = true
      ∧ (readFlag o.late).isSome = true ∧ (readFlag o.report).isSome = true := by
  unfold readOrder
  split
  · next hl ha hf hr => simp [hl, ha, hf, hr]
  · next missing =>
    refine iff_of_false (by simp) ?_
    rintro ⟨hl, ha, hf, hr⟩
    obtain ⟨l, hl⟩ := Option.isSome_iff_exists.1 hl
    obtain ⟨a, ha⟩ := Option.isSome_iff_exists.1 ha
    obtain ⟨f, hf⟩ := Option.isSome_iff_exists.1 hf
    obtain ⟨r, hr⟩ := Option.isSome_iff_exists.1 hr
    exact missing l a f r hl ha hf hr

theorem readFlag_eq_decide {b : Byte} {f : Bool} (h : readFlag b = some f) : (!f) = decide (b = 0) ∧ f = decide (b = 1) := by
  rcases readFlag_cases h with ⟨rfl, rfl⟩ | ⟨rfl, rfl⟩ <;> exact ⟨rfl, rfl⟩

/-- An order that is read carries its fields (R82, R195). -/
theorem readOrder_fields {o : RawOrder} {x : Order} (h : readOrder o = some x) :
    x.tag = o.tag ∧ x.line.val = o.line.toNat ∧ x.due = o.due ∧ x.action.code = o.action
      ∧ widthOf x.action = (if 3 ≤ o.action.toNat then o.width.toNat else 0)
      ∧ x.fireNow = decide (o.late = 0) ∧ x.report = decide (o.report = 1) := by
  unfold readOrder at h
  split at h
  · next hl ha hf hr =>
    cases h
    obtain ⟨code, width⟩ := readAction_code ha
    unfold readLine at hl
    split at hl
    · cases hl
      exact ⟨rfl, rfl, rfl, code, width, (readFlag_eq_decide hf).1, (readFlag_eq_decide hr).2⟩
    · cases hl
  · cases h

/-! ## The range check (R82, R83) -/

/-- The first order that is out of range stops the reading (R82, R83). -/
theorem readBatch_error {k : Nat} {good rest : List RawOrder} {bad : RawOrder}
    (read : ∀ o ∈ good, (readOrder o).isSome = true) (out : readOrder bad = none) :
    readBatch k (good ++ bad :: rest) = .error (k + good.length) := by
  induction good generalizing k with
  | nil =>
    rw [List.nil_append, readBatch, out]
    rfl
  | cons o good ih =>
    obtain ⟨first, others⟩ := List.forall_mem_cons.1 read
    obtain ⟨order, ho⟩ := Option.isSome_iff_exists.1 first
    rw [List.cons_append, readBatch, ho, ih others, List.length_cons]
    simp only [Except.error.injEq]
    omega

/-- A list of the wrong length is refused at index 0 (R83). -/
theorem scheduleRequest_size {orders : List RawOrder} {s : State} (size : orders = [] ∨ 8 < orders.length) :
    scheduleRequest orders s = scheduleRefusal .badField 0 s :=
  if_pos (size.imp_left List.length_eq_zero_iff.2)

/-- The first order out of range is refused at its index (R83). -/
theorem scheduleRequest_range {good rest : List RawOrder} {bad : RawOrder} {s : State}
    (few : (good ++ bad :: rest).length ≤ 8) (read : ∀ o ∈ good, (readOrder o).isSome = true)
    (out : readOrder bad = none) :
    scheduleRequest (good ++ bad :: rest) s = scheduleRefusal .badField good.length s := by
  rw [scheduleRequest, if_neg (by simp at few ⊢; omega), readBatch_error read out, Nat.zero_add]

/-! ## The first index that fails -/

/-- `found` is the first index, counted from `start`, of which `p` holds, or none when it holds of no index. -/
def FirstFrom (start : Nat) (p : Nat → Prop) (found : Option Nat) : Prop :=
  match found with
  | some k => ∃ i, k = start + i ∧ p i ∧ ∀ j < i, ¬ p j
  | none => ∀ i, ¬ p i

section
variable {start : Nat} {p q : Nat → Prop} {found : Option Nat}

theorem FirstFrom.head (h : p 0) : FirstFrom start p (some start) :=
  ⟨0, rfl, h, fun _ less => absurd less (Nat.not_lt_zero _)⟩

/-- An index that does not hold at the head is looked for behind it. -/
theorem FirstFrom.tail (head : ¬ p 0) (h : FirstFrom (start + 1) (fun i => p (i + 1)) found) :
    FirstFrom start p found := by
  cases found with
  | none =>
    intro i
    cases i with
    | zero => exact head
    | succ i => exact h i
  | some k =>
    obtain ⟨i, rfl, holds, before⟩ := h
    refine ⟨i + 1, by omega, holds, fun j less => ?_⟩
    cases j with
    | zero => exact head
    | succ j => exact before j (by omega)

theorem FirstFrom.congr (h : FirstFrom start p found) (same : ∀ i, p i ↔ q i) : FirstFrom start q found := by
  rwa [← show p = q from funext fun i => propext (same i)]

theorem FirstFrom.none_iff (h : FirstFrom start p found) : found = none ↔ ∀ i, ¬ p i := by
  cases found with
  | none => exact iff_of_true rfl h
  | some k =>
    obtain ⟨i, -, holds, -⟩ := h
    exact iff_of_false (by simp) fun never => never i holds

theorem FirstFrom.eq_some (h : FirstFrom 0 p found) {k : Nat} (holds : p k) (before : ∀ j < k, ¬ p j) :
    found = some k := by
  cases found with
  | none => exact absurd holds (h k)
  | some n =>
    obtain ⟨i, rfl, hi, first⟩ := h
    rcases Nat.lt_trichotomy i k with less | rfl | less
    · exact absurd hi (before i less)
    · rw [Nat.zero_add]
    · exact absurd holds (first k less)

end

/-- A search through a list. -/
theorem firstFrom_findIdx? {α : Type} (p : α → Bool) (l : List α) :
    FirstFrom 0 (fun k => ∃ a, l[k]? = some a ∧ p a = true) (l.findIdx? p) := by
  cases found : l.findIdx? p with
  | none =>
    rintro i ⟨a, ha, holds⟩
    have := List.findIdx?_eq_none_iff.1 found a (List.mem_of_getElem? ha)
    rw [this] at holds
    cases holds
  | some k =>
    obtain ⟨less, holds, before⟩ := List.findIdx?_eq_some_iff_getElem.1 found
    refine ⟨k, (Nat.zero_add k).symm, ⟨_, List.getElem?_eq_getElem less, holds⟩, ?_⟩
    rintro j hj ⟨a, ha, fails⟩
    obtain ⟨hl, rfl⟩ := List.getElem?_eq_some_iff.1 ha
    exact absurd fails (before j hj)

/-! ## Checks 3 and 7 (R83) -/

/-- Check 3 stands at the first order whose tag is taken already or repeats an earlier one's. -/
theorem firstFrom_firstTagClash (start : Nat) (taken : List Half) (batch : List Order) :
    FirstFrom start (fun k => ∃ o, batch[k]? = some o ∧ (o.tag ∈ taken ∨ ∃ p ∈ batch.take k, p.tag = o.tag))
      (firstTagClash start taken batch) := by
  induction batch generalizing start taken with
  | nil => rintro i ⟨o, ho, -⟩; simp at ho
  | cons o rest ih =>
    unfold firstTagClash
    simp only [List.contains_eq_mem, decide_eq_true_eq]
    split
    · next clash => exact .head ⟨o, rfl, .inl clash⟩
    · next free =>
      refine .tail (by simpa using free) ((ih (start + 1) (o.tag :: taken)).congr fun i => ?_)
      simp only [List.getElem?_cons_succ, List.take_succ_cons, List.mem_cons, exists_eq_or_imp]
      refine exists_congr fun x => and_congr_right fun _ => ?_
      rw [eq_comm (a := x.tag)]
      tauto

/-- The entries that a batch needs at T (R83). -/
def entriesNeeded (now : Stamp) (batch : List Order) : Nat :=
  (batch.filter fun o => o.action.isPulse || classify o.due now == .future).length

theorem Order.need_eq (o : Order) (now : Stamp) : o.need now = entriesNeeded now [o] := by
  unfold Order.need entriesNeeded
  by_cases future : classify o.due now = .future
  · simp [future]
  · cases pulse : o.action.isPulse <;> simp [future, pulse]

theorem entriesNeeded_cons (now : Stamp) (o : Order) (rest : List Order) :
    entriesNeeded now (o :: rest) = o.need now + entriesNeeded now rest := by
  rw [Order.need_eq, entriesNeeded, ← List.singleton_append, List.filter_append, List.length_append]
  rfl

/-- Check 7 stands at the first order at which the entries needed so far exceed the free ones. -/
theorem firstFrom_firstOverflow (now : Stamp) (start free : Nat) (batch : List Order) :
    FirstFrom start (fun k => k < batch.length ∧ free < entriesNeeded now (batch.take (k + 1)))
      (firstOverflow now start free batch) := by
  induction batch generalizing start free with
  | nil => rintro i ⟨less, -⟩; exact absurd less (Nat.not_lt_zero i)
  | cons o rest ih =>
    have needed (i : Nat) : entriesNeeded now ((o :: rest).take (i + 1))
        = o.need now + entriesNeeded now (rest.take i) := by
      rw [List.take_succ_cons, entriesNeeded_cons]
    unfold firstOverflow
    split
    · next exceeds => exact .head ⟨by simp, by rw [needed]; omega⟩
    · next enough =>
      have none : entriesNeeded now (rest.take 0) = 0 := rfl
      refine .tail (fun h => ?_) ((ih (start + 1) (free - o.need now)).congr fun i => ?_)
      · have := h.2
        rw [needed, none] at this
        omega
      · rw [needed, List.length_cons]
        omega

/-- Check 3 passes when no tag stands twice in the batch and none is taken. -/
theorem firstTagClash_eq_none {k : Nat} {taken : List Half} {batch : List Order} :
    firstTagClash k taken batch = none ↔ (batch.map (·.tag)).Nodup ∧ ∀ o ∈ batch, o.tag ∉ taken := by
  refine ⟨firstTagClash_none, fun passed => ?_⟩
  induction batch generalizing k taken with
  | nil => rfl
  | cons o rest ih =>
    obtain ⟨other, tags⟩ := List.nodup_cons.1 (List.map_cons ▸ passed.1)
    obtain ⟨first, fresh⟩ := List.forall_mem_cons.1 passed.2
    unfold firstTagClash
    rw [if_neg (by simpa using first)]
    refine ih ⟨tags, fun p hp => List.not_mem_cons_of_ne_of_not_mem (fun same => other ?_) (fresh p hp)⟩
    exact List.mem_map.2 ⟨p, hp, same⟩

/-- Check 7 passes when the entries that the batch needs are free. -/
theorem firstOverflow_eq_none {now : Stamp} {k free : Nat} {batch : List Order} :
    firstOverflow now k free batch = none ↔ entriesNeeded now batch ≤ free := by
  induction batch generalizing k free with
  | nil => exact iff_of_true rfl (Nat.zero_le _)
  | cons o rest ih =>
    unfold firstOverflow
    rw [entriesNeeded_cons]
    split
    · next exceeds => exact iff_of_false (by simp) (by omega)
    · next enough => rw [ih]; omega

/-! ## The checks together (R83) -/

/-- What SCHEDULE looks for at each of its checks 2 to 7. -/
def firstFault (s : State) (batch : List Order) : Nat → Option Nat
  | 2 => batch.findIdx? fun o => 0xF000 ≤ o.tag.toNat
  | 3 => firstTagClash 0 (s.agenda.entries.map (·.tag)) batch
  | 4 => batch.findIdx? fun o => !(s.line o.line).isDrive
  | 5 => batch.findIdx? fun o => classify o.due s.timebase.time == .beyond
  | 6 => batch.findIdx? fun o => classify o.due s.timebase.time == .late && !o.fireNow
  | 7 => firstOverflow s.timebase.time 0 s.agenda.free batch
  | _ => none

section
variable {s : State} {batch : List Order}

/-- The fault of a batch is that of the first check that finds one. -/
theorem batchFault_eq :
    batchFault s batch = [2, 3, 4, 5, 6, 7].findSome? fun check =>
      (firstFault s batch check).map fun k => (checkCode check, k) := by
  have step (f : Nat → Option (ResultCode × Nat)) (check : Nat) (rest : List Nat) :
      (check :: rest).findSome? f = (f check <|> rest.findSome? f) := by
    rw [List.findSome?_cons]
    cases f check <;> rfl
  simp only [batchFault, step, List.findSome?_nil, Option.orElse_eq_orElse, Option.orElse_eq_or, Option.or_none]
  rfl

theorem firstFault_first (check : Nat) : FirstFrom 0 (failsCheck s batch check) (firstFault s batch check) := by
  match check with
  | 2 => exact (firstFrom_findIdx? _ batch).congr fun k => by simp [failsCheck]
  | 3 =>
    refine (firstFrom_firstTagClash 0 _ batch).congr fun k => ?_
    simp [failsCheck]
  | 4 => exact (firstFrom_findIdx? _ batch).congr fun k => by simp [failsCheck]
  | 5 => exact (firstFrom_findIdx? _ batch).congr fun k => by simp [failsCheck]
  | 6 => exact (firstFrom_findIdx? _ batch).congr fun k => by simp [failsCheck]
  | 7 => exact firstFrom_firstOverflow s.timebase.time 0 s.agenda.free batch
  | 0 => exact fun _ => id
  | 1 => exact fun _ => id
  | n + 8 => exact fun _ => id

theorem mem_checks_of_fails {check k : Nat} (fails : failsCheck s batch check k) : check ∈ [2, 3, 4, 5, 6, 7] := by
  match check with
  | 2 | 3 | 4 | 5 | 6 | 7 => decide
  | 0 | 1 | _ + 8 => exact False.elim fails

/-- The first check that some order fails decides, with the first order that fails it. -/
theorem batchFault_of_fails {check k : Nat} (fails : failsCheck s batch check k)
    (first : ∀ j < k, ¬ failsCheck s batch check j)
    (passed : ∀ earlier < check, ∀ j, ¬ failsCheck s batch earlier j) :
    batchFault s batch = some (checkCode check, k) := by
  have found : firstFault s batch check = some k := (firstFault_first check).eq_some fails first
  obtain ⟨lower, higher, split⟩ := List.append_of_mem (mem_checks_of_fails fails)
  have ascending : [2, 3, 4, 5, 6, 7].Pairwise (· < ·) := by decide
  rw [split, List.pairwise_append] at ascending
  obtain ⟨-, -, below⟩ := ascending
  rw [batchFault_eq, List.findSome?_eq_some_iff]
  refine ⟨lower, check, higher, split, by rw [found]; rfl, fun earlier he => ?_⟩
  rw [(firstFault_first earlier).none_iff.2 (passed earlier (below earlier he check List.mem_cons_self))]
  rfl

/-- Checks 2 to 7 all pass (R83). -/
theorem batchFault_eq_none :
    batchFault s batch = none ↔
      (∀ o ∈ batch, o.tag.toNat < 0xF000)
      ∧ (batch.map (·.tag)).Nodup ∧ (∀ o ∈ batch, ∀ e ∈ s.agenda.entries, o.tag ≠ e.tag)
      ∧ (∀ o ∈ batch, (s.line o.line).isDrive = true)
      ∧ (∀ o ∈ batch, classify o.due s.timebase.time ≠ .beyond)
      ∧ (∀ o ∈ batch, classify o.due s.timebase.time = .late → o.fireNow = true)
      ∧ entriesNeeded s.timebase.time batch ≤ 64 - s.agenda.entries.length := by
  have fresh : (∀ o ∈ batch, o.tag ∉ s.agenda.entries.map (·.tag))
      ↔ ∀ o ∈ batch, ∀ e ∈ s.agenda.entries, o.tag ≠ e.tag := by
    simp [eq_comm]
  simp only [batchFault, Option.orElse_eq_none, Option.map_eq_none_iff, List.findIdx?_eq_none_iff, firstTagClash_eq_none,
    firstOverflow_eq_none, fresh, and_assoc]
  simp [Agenda.free, Config.agendaCapacity]

end

end Sys2Proof.Machine

namespace Sys2Proof.Claims

open Sys2Proof.Machine Sys2Proof.Safety

/-- Settles O36: the range of an order's fields; the refusals of the range check; checks 2 to 7 and their refusals. -/
theorem scheduleChecks : Obligations.ScheduleChecks := by
  refine ⟨fun o => ⟨?_, fun x read => readOrder_fields read⟩, fun seq orders s fits takes => ⟨fun size => ?_, ?_⟩,
    fun s batch => ⟨fun check k => batchFault_of_fails, batchFault_eq_none, ?_⟩⟩
  · rw [readOrder_isSome, readLine_isSome, readAction_isSome, readFlag_isSome_iff, readFlag_isSome_iff,
      decide_eq_true_eq, and_assoc]
  · exact exec_answered (r := .schedule orders) 0 (by simp) fits takes (scheduleRequest_size size)
  · rintro good rest bad rfl few read out
    exact exec_answered (r := .schedule _) 0 (by simp) fits takes (scheduleRequest_range few read out)
  · intro seq orders code k takes nonempty few read guard fault
    refine exec_answered (r := .schedule orders) 0 (by simp) (schedule_wellFormed few) takes ?_
    exact (scheduleRequest_read nonempty few read (guarded_eq_false guard)).1 code k fault

end Sys2Proof.Claims
end

section
/-! One line's pattern at a tick: the takeover, the clipping and the boundary action, and the edge at the offset. -/

namespace Sys2Proof.Machine

/-! ## A line written over itself -/

theorem Bank.set_set {n : Nat} {α : Type} (b : Bank n α) (i : Fin n) (x y : α) : (b.set i x).set i y = b.set i y :=
  Bank.ext_get fun j => by
    simp only [Bank.get_set]
    split <;> rfl

theorem State.setLine_setLine (s : State) (i : LineId) (l m : Line) : (s.setLine i l).setLine i m = s.setLine i m := by
  simp only [State.setLine, Bank.set_set]

theorem State.setLine_line (s : State) (i : LineId) : s.setLine i (s.line i) = s := by
  simp only [State.setLine, State.line, Bank.set_get]

/-! ## The parts of the boundary step (R112, R113, R116) -/

/-- The line after the takeover of R112. -/
def Line.tookOver (l : Line) : Line :=
  match l.takeover with
  | some t => { l with active := t, takeover := none }
  | none => l

/-- The line after the boundary action of R113. -/
def Line.boundaryActed (l : Line) : Line :=
  match l.activePattern with
  | some { boundary := .act a, .. } => l.act a
  | _ => l

/-- The Notice Queue after the report of the takeover of R112. -/
def State.takeoverNoted (s : State) (i : LineId) : NoticeQueue :=
  match (s.line i).takeover with
  | some t => s.notices.raise s.timebase.time (.slotTaken i t s.timebase.cycle)
  | none => s.notices

@[simp] theorem Line.tookOver_isDrive (l : Line) : l.tookOver.isDrive = l.isDrive := by
  unfold Line.tookOver
  split <;> rfl

theorem State.takeOver_eq (s : State) (i : LineId) :
    s.takeOver i = { s.setLine i (s.line i).tookOver with notices := s.takeoverNoted i } := by
  unfold State.takeOver Line.tookOver State.takeoverNoted
  cases (s.line i).takeover with
  | some t => rfl
  | none => rw [State.setLine_line]

theorem State.line_takeOver (s : State) (i : LineId) : (s.takeOver i).line i = (s.line i).tookOver := by
  rw [State.takeOver_eq]
  exact Bank.get_set_self _ _ _

theorem State.boundaryAct_eq (s : State) (i : LineId) : s.boundaryAct i = s.setLine i (s.line i).boundaryActed := by
  unfold State.boundaryAct Line.boundaryActed
  cases (s.line i).activePattern with
  | none => rw [State.setLine_line]
  | some p =>
    obtain ⟨boundary, edges⟩ := p
    cases boundary with
    | keep => rw [State.setLine_line]
    | act a => rfl

/-- Only the Notice Queue is written, and only when the active pattern has edges at or beyond L (R116). -/
theorem State.clipNotice_drive {s : State} {i : LineId} (drive : (s.line i).isDrive = true) :
    s.clipNotice i = { s with
      notices := if 1 ≤ (s.line i).clippedCount s.timebase.length then
          s.notices.raise s.timebase.time
            (.patternClipped i (s.line i).active ((s.line i).clippedCount s.timebase.length))
        else s.notices } := by
  simp only [State.clipNotice, State.raiseIf, drive, Bool.true_and, decide_eq_true_eq]
  split <;> rfl

/-- Step 1 of R35 on a drive line. -/
theorem State.boundaryStep_drive {s : State} {i : LineId} (drive : (s.line i).isDrive = true) (lengthTaken : Bool) :
    s.boundaryStep lengthTaken i
      = { s.setLine i (s.line i).tookOver.boundaryActed with
        notices :=
          if ((s.line i).takeover.isSome = true ∨ lengthTaken = true)
              ∧ 1 ≤ (s.line i).tookOver.clippedCount s.timebase.length then
            (s.takeoverNoted i).raise s.timebase.time (.patternClipped i (s.line i).tookOver.active
              ((s.line i).tookOver.clippedCount s.timebase.length))
          else s.takeoverNoted i } := by
  have line : (s.takeOver i).line i = (s.line i).tookOver := s.line_takeOver i
  have clip := State.clipNotice_drive (s := s.takeOver i) (i := i) (by rw [line, Line.tookOver_isDrive, drive])
  rw [line, State.takeOver_timebase] at clip
  have acted (t : State) (lines : t.lines = (s.takeOver i).lines) :
      t.boundaryAct i = t.setLine i (s.line i).tookOver.boundaryActed := by
    rw [State.boundaryAct_eq, State.line, lines, ← State.line, line]
  rw [State.boundaryStep, if_pos drive]
  dsimp only
  simp only [Bool.or_eq_true]
  split
  · next reports =>
    rw [acted _ (State.clipNotice_lines _ i), clip, State.takeOver_eq]
    simp only [State.setLine, Bank.set_set, reports, true_and]
  · next silent =>
    rw [acted _ rfl, State.takeOver_eq]
    simp only [State.setLine, Bank.set_set, silent, false_and, if_false]

/-- Step 2 of R35 on a drive line (R114). -/
theorem State.patternEdge_drive {s : State} {i : LineId} (drive : (s.line i).isDrive = true) :
    s.patternEdge i = s.setLine i (match (s.line i).activePattern with
      | some p => (match p.edges.find? fun e => e.offset == s.timebase.offset with
        | some e => (s.line i).act e.action
        | none => s.line i)
      | none => s.line i) := by
  rw [State.patternEdge, if_pos drive]
  cases (s.line i).activePattern with
  | none => exact (s.setLine_line i).symm
  | some p =>
    change (match p.edges.find? fun e => e.offset == s.timebase.offset with
      | some e => s.actOn i e.action
      | none => s) = _
    dsimp only
    cases p.edges.find? fun e => e.offset == s.timebase.offset with
    | none => exact (s.setLine_line i).symm
    | some e => rfl

end Sys2Proof.Machine

namespace Sys2Proof.Claims

open Sys2Proof.Machine Sys2Proof.Safety

/-- Settles O29: the two steps of a drive line, with its active pattern written out. -/
theorem patternStepsOfALine : Obligations.PatternStepsOfALine := by
  intro s i lengthTaken drive
  exact ⟨State.boundaryStep_drive drive lengthTaken, State.patternEdge_drive drive⟩

end Sys2Proof.Claims
end

section
/-! The patterns WRITE_SLOT takes, WRITE_SLOT and CLEAR_PATTERN. -/

namespace Sys2Proof.Machine

/-! ## The patterns WRITE_SLOT takes (R105, R107) -/

theorem readLevelAction_eq_some {b : Byte} {a : LevelAction} : readLevelAction b = some a ↔ a.code = b := by
  constructor
  · intro h
    unfold readLevelAction at h
    split at h <;> cases h <;> rfl
  · rintro rfl
    cases a <;> rfl

theorem readLevelAction_isSome (b : Byte) : (readLevelAction b).isSome = true ↔ b.toNat ≤ 2 := by
  simp only [Option.isSome_iff_exists, readLevelAction_eq_some]
  constructor
  · rintro ⟨a, rfl⟩
    cases a <;> decide
  · intro h
    obtain rfl | rfl | rfl := byte_le_two h
    exacts [⟨.set, rfl⟩, ⟨.clear, rfl⟩, ⟨.toggle, rfl⟩]

theorem readBoundaryAction_eq_some {b : Byte} {a : BoundaryAction} : readBoundaryAction b = some a ↔ a.code = b := by
  constructor
  · intro h
    unfold readBoundaryAction at h
    split at h
    · next keep => cases h; exact keep.symm
    · obtain ⟨act, read, rfl⟩ := Option.map_eq_some_iff.1 h
      exact readLevelAction_eq_some.1 read
  · rintro rfl
    cases a with
    | keep => rfl
    | act a => cases a <;> rfl

theorem readBoundaryAction_isSome (b : Byte) :
    (readBoundaryAction b).isSome = true ↔ b ∈ [0#8, 1#8, 2#8, 5#8] := by
  simp only [Option.isSome_iff_exists, readBoundaryAction_eq_some]
  constructor
  · rintro ⟨a, rfl⟩
    cases a with
    | keep => decide
    | act a => cases a <;> decide
  · intro h
    simp only [List.mem_cons, List.not_mem_nil, or_false] at h
    obtain rfl | rfl | rfl | rfl := h
    exacts [⟨.act .set, rfl⟩, ⟨.act .clear, rfl⟩, ⟨.act .toggle, rfl⟩, ⟨.keep, rfl⟩]

/-- An edge that is read holds what was sent (R195). -/
theorem readPatternEdge_eq_some {e : RawEdge} {p : PatternEdge} :
    readPatternEdge e = some p ↔ (p.offset, p.action.code) = (e.offset.toNat, e.action) := by
  obtain ⟨offset, action⟩ := p
  simp only [readPatternEdge, Option.map_eq_some_iff, readLevelAction_eq_some, PatternEdge.mk.injEq, Prod.mk.injEq]
  constructor
  · rintro ⟨a, code, rfl, rfl⟩
    exact ⟨rfl, code⟩
  · rintro ⟨rfl, code⟩
    exact ⟨action, code, rfl, rfl⟩

theorem readPatternEdges_cons {e : RawEdge} {rest : List RawEdge} {ps : List PatternEdge} :
    readPatternEdges (e :: rest) = some ps
      ↔ ∃ p tail, readPatternEdge e = some p ∧ readPatternEdges rest = some tail ∧ ps = p :: tail := by
  rw [readPatternEdges]
  cases readPatternEdge e with
  | none => simp
  | some p =>
    cases readPatternEdges rest with
    | none => simp
    | some tail => simp [eq_comm]

theorem readPatternEdges_eq_some {es : List RawEdge} {ps : List PatternEdge} :
    readPatternEdges es = some ps
      ↔ (ps.map fun e => (e.offset, e.action.code)) = es.map fun e => (e.offset.toNat, e.action) := by
  induction es generalizing ps with
  | nil =>
    rw [readPatternEdges, Option.some.injEq, List.map_nil, List.map_eq_nil_iff, eq_comm]
  | cons e rest ih =>
    simp only [readPatternEdges_cons, readPatternEdge_eq_some, ih, List.map_cons, List.map_eq_cons_iff]
    constructor
    · rintro ⟨p, tail, head, others, rfl⟩
      exact ⟨p, tail, rfl, head, others⟩
    · rintro ⟨p, tail, rfl, head, others⟩
      exact ⟨p, tail, head, others, rfl⟩

theorem readPatternEdges_isSome (es : List RawEdge) :
    (readPatternEdges es).isSome = true ↔ ∀ e ∈ es, e.action.toNat ≤ 2 := by
  induction es with
  | nil => simp [readPatternEdges]
  | cons e rest ih =>
    have first : (∃ p, readPatternEdge e = some p) ↔ e.action.toNat ≤ 2 := by
      rw [← Option.isSome_iff_exists, readPatternEdge, Option.isSome_map, readLevelAction_isSome]
    rw [List.forall_mem_cons, ← first, ← ih]
    simp only [Option.isSome_iff_exists, readPatternEdges_cons]
    constructor
    · rintro ⟨-, p, tail, head, others, -⟩
      exact ⟨⟨p, head⟩, tail, others⟩
    · rintro ⟨⟨p, head⟩, tail, others⟩
      exact ⟨_, p, tail, head, others, rfl⟩

theorem increasingOffsets_iff_isChain (es : List PatternEdge) :
    increasingOffsets es = true ↔ es.IsChain fun a b => a.offset < b.offset := by
  induction es with
  | nil => simp [increasingOffsets]
  | cons a rest ih =>
    cases rest with
    | nil => simp [increasingOffsets]
    | cons b rest =>
      rw [increasingOffsets, Bool.and_eq_true, decide_eq_true_eq, ih, List.isChain_cons_cons]

/-- Neighbours that increase make the whole list increase. -/
theorem increasingOffsets_iff (es : List PatternEdge) :
    increasingOffsets es = true ↔ es.Pairwise fun a b => a.offset < b.offset := by
  have : IsTrans PatternEdge fun a b => a.offset < b.offset := ⟨fun _ _ _ => Nat.lt_trans⟩
  rw [increasingOffsets_iff_isChain, List.isChain_iff_pairwise]

section
variable {boundary : Byte} {edges : List RawEdge} {p : Pattern}

/-- The edges of a pattern have the number and the order of those sent. -/
theorem sent_length_and_order
    (sent : (p.edges.map fun e => (e.offset, e.action.code)) = edges.map fun e => (e.offset.toNat, e.action)) :
    p.edges.length = edges.length ∧ (increasingOffsets p.edges = true
      ↔ edges.Pairwise fun a b => a.offset.toNat < b.offset.toNat) := by
  have offsets : p.edges.map PatternEdge.offset = edges.map fun e => e.offset.toNat := by
    simpa only [List.map_map, Function.comp_def] using congrArg (List.map Prod.fst) sent
  refine ⟨by simpa using congrArg List.length sent, ?_⟩
  rw [increasingOffsets_iff, ← List.pairwise_map (f := PatternEdge.offset) (R := (· < ·)), offsets, List.pairwise_map]

theorem readPattern_eq_some : readPattern boundary edges = some p ↔
    p.boundary.code = boundary
      ∧ (p.edges.map fun e => (e.offset, e.action.code)) = (edges.map fun e => (e.offset.toNat, e.action))
      ∧ edges.length ≤ 6 ∧ edges.Pairwise (fun a b => a.offset.toNat < b.offset.toNat) := by
  have parts : readPattern boundary edges = some p
      ↔ readBoundaryAction boundary = some p.boundary ∧ readPatternEdges edges = some p.edges
        ∧ p.edges.length ≤ 6 ∧ increasingOffsets p.edges = true := by
    obtain ⟨b, es⟩ := p
    unfold readPattern
    cases readBoundaryAction boundary with
    | none => simp
    | some b' =>
      cases readPatternEdges edges with
      | none => simp
      | some es' =>
        simp only [Option.ite_none_right_eq_some, Option.some.injEq, Pattern.mk.injEq]
        constructor
        · rintro ⟨range, rfl, rfl⟩
          exact ⟨rfl, rfl, range⟩
        · rintro ⟨rfl, rfl, range⟩
          exact ⟨range, rfl, rfl⟩
  rw [parts, readBoundaryAction_eq_some, readPatternEdges_eq_some]
  refine and_congr_right fun _ => and_congr_right fun sent => ?_
  obtain ⟨length, order⟩ := sent_length_and_order sent
  rw [length, order]

theorem readPattern_isSome (boundary : Byte) (edges : List RawEdge) :
    (readPattern boundary edges).isSome = true ↔
      boundary ∈ [0#8, 1#8, 2#8, 5#8] ∧ edges.length ≤ 6 ∧ (∀ e ∈ edges, e.action.toNat ≤ 2)
        ∧ edges.Pairwise (fun a b => a.offset.toNat < b.offset.toNat) := by
  rw [← readBoundaryAction_isSome, ← readPatternEdges_isSome]
  simp only [Option.isSome_iff_exists, readPattern_eq_some, readBoundaryAction_eq_some, readPatternEdges_eq_some]
  constructor
  · rintro ⟨p, code, sent, few, order⟩
    exact ⟨⟨_, code⟩, few, ⟨_, sent⟩, order⟩
  · rintro ⟨⟨b, code⟩, few, ⟨es, sent⟩, order⟩
    exact ⟨⟨b, es⟩, code, sent, few, order⟩

/-- A WRITE_SLOT whose pattern is taken fits a frame (R162). -/
theorem writeSlot_wellFormed (line slot : Byte) (read : readPattern boundary edges = some p) :
    (Request.writeSlot line slot boundary edges).wellFormed = true := by
  obtain ⟨-, -, few, -⟩ := readPattern_eq_some.1 read
  have bytes (e : RawEdge) : e.bytes.length = 3 := rfl
  have total : (edges.flatMap RawEdge.bytes).length = 3 * edges.length := by
    simp [List.length_flatMap, bytes, Nat.mul_comm]
  refine decide_eq_true ?_
  simp only [Request.payload, List.length_append, List.length_cons, List.length_nil, total, Config.payloadLimit]
  omega

end

/-! ## WRITE_SLOT and CLEAR_PATTERN (R107 to R110) -/

/-- The slot that the code 1 or 2 names. -/
def namedSlot (slot : Byte) : SlotSel := if slot = 1 then .slotA else .slotB

theorem readSlot_named {slot : Byte} (named : slot = 1 ∨ slot = 2) : readSlot slot = some (namedSlot slot) := by
  rcases named with rfl | rfl <;> rfl

theorem readSlot_other {slot : Byte} (other : slot ≠ 1 ∧ slot ≠ 2) : readSlot slot = none := by
  obtain ⟨notA, notB⟩ := other
  unfold readSlot
  split
  · exact absurd rfl notA
  · exact absurd rfl notB
  · rfl

theorem readLine_above {line : Byte} (above : 16 ≤ line.toNat) : readLine line = none := dif_neg (by omega)

/-- A line after its slot was written, field by field (R109). -/
theorem Line.write_named {slot : Byte} (named : slot = 1 ∨ slot = 2) (l : Line) (p : Pattern) :
    l.write (namedSlot slot) p = { l with
      slotA := if slot = 1 then some p else l.slotA
      slotB := if slot = 2 then some p else l.slotB
      takeover := some (namedSlot slot) } := by
  rcases named with rfl | rfl <;> rfl

section
variable {line slot boundary : Byte} {edges : List RawEdge} {i : LineId} {sl : SlotSel} {p : Pattern} {s : State}

theorem writeSlotRequest_badField
    (bad : 16 ≤ line.toNat ∨ (slot ≠ 1 ∧ slot ≠ 2) ∨ readPattern boundary edges = none) :
    writeSlotRequest line slot boundary edges s = refuse .badField s := by
  unfold writeSlotRequest
  rcases bad with above | other | pattern
  · rw [readLine_above above]
  · rw [readSlot_other other]
    cases readLine line <;> rfl
  · rw [pattern]
    cases readLine line <;> cases readSlot slot <;> rfl

/-- Checks 3 to 5 of R107, and the write (R109). -/
theorem writeSlotRequest_read (hi : readLine line = some i) (hs : readSlot slot = some sl)
    (hp : readPattern boundary edges = some p) (unguarded : s.guarded = false) :
    writeSlotRequest line slot boundary edges s
      = if (s.line i).isDrive = false then refuse .lineMode s
        else if (s.line i).active = sl then refuse .slotActive s
        else match p.edges.findIdx? fun e => s.timebase.checkLength ≤ e.offset with
          | some k => refuseWith .badField (.offsetError k s.timebase.checkLength) s
          | none => accept (.pattern ((s.line i).write sl p).active ((s.line i).write sl p).takeover p)
              (s.setLine i ((s.line i).write sl p)) := by
  rw [writeSlotRequest, hi, hs, hp]
  refine (if_neg (by simp [unguarded])).trans ?_
  cases (s.line i).isDrive <;> rfl

theorem clearPatternRequest_read (hi : readLine line = some i) (unguarded : s.guarded = false) :
    clearPatternRequest line s
      = if (s.line i).isDrive = false then refuse .lineMode s
        else accept (.slots (s.line i).active (some .noSlot))
          (s.setLine i { s.line i with takeover := some .noSlot }) := by
  rw [clearPatternRequest, hi]
  refine (if_neg (by simp [unguarded])).trans ?_
  cases (s.line i).isDrive <;> rfl

theorem clearPatternRequest_badField (above : 16 ≤ line.toNat) :
    clearPatternRequest line s = refuse .badField s := by
  rw [clearPatternRequest, readLine_above above]

/-- R108's length, as the statements write it. -/
theorem Timebase.checkLength_eq (t : Timebase) :
    t.checkLength = match t.staged with
      | some n => n
      | none => t.length := by
  unfold Timebase.checkLength
  cases t.staged <;> rfl

end

end Sys2Proof.Machine

namespace Sys2Proof.Claims

open Sys2Proof.Machine Sys2Proof.Safety

/-- Settles O28: the patterns taken; the fields refused; then the checks of both requests in their order and what each
writes. -/
theorem slotRequestsSetTheTakeover : Obligations.SlotRequestsSetTheTakeover := by
  refine ⟨fun boundary edges => ⟨readPattern_isSome boundary edges, fun p read => ?_⟩, ?_, ?_, ?_⟩
  · obtain ⟨code, sent, -, -⟩ := readPattern_eq_some.1 read
    exact ⟨code, sent⟩
  · intro seq line slot boundary edges s r fits takes bad
    exact exec_answered (r := r) 0 (by simp [r]) fits takes (writeSlotRequest_badField bad)
  · intro seq line s takes above
    exact exec_answered (r := .clearPattern line) 0 (by simp) rfl takes (clearPatternRequest_badField above)
  intro seq line i s hi guard
  have unguarded := guarded_eq_false guard
  refine ⟨fun slot boundary edges p => ?_, fun takes => ?_⟩
  · intro r check takes named hp sel
    have respond {t : State} {reply : Reply} (h : writeSlotRequest line slot boundary edges s = (t, some reply)) :
        exec (.writeSlot seq line slot boundary edges) s = .next (answered t seq r reply) :=
      exec_answered (r := r) 0 (by simp [r]) (writeSlot_wellFormed line slot hp) takes h
    have length : s.timebase.checkLength = check := Timebase.checkLength_eq _
    have slot_eq : namedSlot slot = sel := rfl
    have answer := writeSlotRequest_read hi (readSlot_named named) hp unguarded
    rw [length, Line.write_named named, slot_eq] at answer
    split
    · next other => exact respond (answer.trans (if_pos other))
    next drive =>
    rw [if_neg drive] at answer
    split
    · next active => exact respond (answer.trans (if_pos active))
    next inactive =>
    rw [if_neg inactive] at answer
    split
    · next k beyond => exact respond (by rw [answer, beyond]; rfl)
    · next within => exact respond (by rw [answer, within]; rfl)
  · have respond {t : State} {reply : Reply} (h : clearPatternRequest line s = (t, some reply)) :
        exec (.clearPattern seq line) s = .next (answered t seq (.clearPattern line) reply) :=
      exec_answered (r := .clearPattern line) 0 (by simp) rfl takes h
    have answer := clearPatternRequest_read hi unguarded
    split
    · next other => exact respond (answer.trans (if_pos other))
    · next drive => exact respond (answer.trans (if_neg drive))

end Sys2Proof.Claims
end

section
/-! SET_FOLLOW, ARM_FOLLOW, DISARM_FOLLOW and CLEAR_FOLLOW, as their statements give them. -/

namespace Sys2Proof.Machine

open Sys2Proof.Claims

/-! ## The settings SET_FOLLOW takes (R124, R195) -/

theorem readLine_eq_some {b : Byte} {i : LineId} : readLine b = some i ↔ i.val = b.toNat := by
  unfold readLine
  split
  · rw [Option.some.injEq, Fin.ext_iff, eq_comm]
  · next above => exact iff_of_false (by simp) fun same => above (same ▸ i.isLt)

theorem readFollowPolarity_eq_some {b : Byte} {p : FollowPolarity} : readFollowPolarity b = some p ↔ p.code = b := by
  constructor
  · intro h
    unfold readFollowPolarity at h
    split at h <;> cases h <;> rfl
  · rintro rfl
    cases p <;> rfl

theorem readRetrigger_eq_some {b : Byte} {x : Retrigger} : readRetrigger b = some x ↔ x.code = b := by
  constructor
  · intro h
    unfold readRetrigger at h
    split at h <;> cases h <;> rfl
  · rintro rfl
    cases x <;> rfl

theorem readFollowLate_eq_some {b : Byte} {x : FollowLate} : readFollowLate b = some x ↔ x.code = b := by
  constructor
  · intro h
    unfold readFollowLate at h
    split at h <;> cases h <;> rfl
  · rintro rfl
    cases x <;> rfl

theorem byte_le_one {b : Byte} (h : b.toNat ≤ 1) : b = 0 ∨ b = 1 := by bv_omega

theorem readFollowPolarity_isSome (b : Byte) : (readFollowPolarity b).isSome = true ↔ b.toNat ≤ 2 := by
  simp only [Option.isSome_iff_exists, readFollowPolarity_eq_some]
  constructor
  · rintro ⟨p, rfl⟩
    cases p <;> decide
  · intro h
    obtain rfl | rfl | rfl := byte_le_two h
    exacts [⟨.rise, rfl⟩, ⟨.fall, rfl⟩, ⟨.either, rfl⟩]

theorem readRetrigger_isSome (b : Byte) : (readRetrigger b).isSome = true ↔ b.toNat ≤ 1 := by
  simp only [Option.isSome_iff_exists, readRetrigger_eq_some]
  constructor
  · rintro ⟨x, rfl⟩
    cases x <;> decide
  · intro h
    obtain rfl | rfl := byte_le_one h
    exacts [⟨.restart, rfl⟩, ⟨.ignore, rfl⟩]

theorem readFollowLate_isSome (b : Byte) : (readFollowLate b).isSome = true ↔ b.toNat ≤ 1 := by
  simp only [Option.isSome_iff_exists, readFollowLate_eq_some]
  constructor
  · rintro ⟨x, rfl⟩
    cases x <;> decide
  · intro h
    obtain rfl | rfl := byte_le_one h
    exacts [⟨.fireNow, rfl⟩, ⟨.miss, rfl⟩]

section
variable {raw : RawFollow} {f : FollowSettings}

/-- Each setting is read from its own field; only the lines and the delay are checked besides (R124). -/
theorem readFollow_eq_some : readFollow raw = some f ↔
    readLine raw.source = some f.source ∧ readFollowPolarity raw.polarity = some f.polarity
      ∧ readLine raw.target = some f.target ∧ readAction raw.action raw.width = some f.action
      ∧ readRetrigger raw.retrigger = some f.retrigger ∧ readFollowLate raw.late = some f.late
      ∧ readFlag raw.report = some f.report
      ∧ f.target ≠ f.source ∧ raw.delay ≠ 0 ∧ f.delay = raw.delay ∧ f.shots = raw.shots.toNat := by
  obtain ⟨source, polarity, target, action, delay, shots, retrigger, late, report⟩ := f
  constructor
  · intro h
    unfold readFollow at h
    split at h
    · next hs hp ht ha hr hl hf =>
      split at h
      · cases h
      · next range =>
        cases h
        exact ⟨hs, hp, ht, ha, hr, hl, hf, fun same => range (.inl same), fun zero => range (.inr zero), rfl, rfl⟩
    · cases h
  · rintro ⟨hs, hp, ht, ha, hr, hl, hf, other, delayed, rfl, rfl⟩
    unfold readFollow
    rw [hs, hp, ht, ha, hr, hl, hf]
    exact if_neg (not_or.2 ⟨other, delayed⟩)

/-- Two line numbers that are read are those of one line exactly when they are equal. -/
theorem readLine_inj {a b : Byte} {i j : LineId} (ha : readLine a = some i) (hb : readLine b = some j) :
    i = j ↔ a = b := by
  rw [Fin.ext_iff, readLine_eq_some.1 ha, readLine_eq_some.1 hb, BitVec.toNat_inj]

theorem readLine_isSome_iff (b : Byte) : (readLine b).isSome = true ↔ b.toNat < 16 := by
  rw [readLine_isSome, decide_eq_true_eq]

/-- The settings SET_FOLLOW takes (R124). -/
theorem readFollow_isSome (raw : RawFollow) :
    (readFollow raw).isSome = true ↔ raw.source.toNat < 16 ∧ raw.target.toNat < 16 ∧ raw.target ≠ raw.source
      ∧ raw.polarity.toNat ≤ 2 ∧ raw.action.toNat ≤ 4 ∧ (3 ≤ raw.action.toNat → raw.width ≠ 0) ∧ raw.delay ≠ 0
      ∧ raw.retrigger.toNat ≤ 1 ∧ raw.late.toNat ≤ 1 ∧ raw.report.toNat ≤ 1 := by
  rw [← readLine_isSome_iff raw.source, ← readLine_isSome_iff raw.target, ← readFollowPolarity_isSome,
    ← readRetrigger_isSome, ← readFollowLate_isSome, ← readFlag_isSome_iff,
    ← and_assoc (a := raw.action.toNat ≤ 4), ← readAction_isSome raw.action raw.width]
  simp only [Option.isSome_iff_exists]
  constructor
  · rintro ⟨f, read⟩
    obtain ⟨hs, hp, ht, ha, hr, hl, hf, other, delayed, -, -⟩ := readFollow_eq_some.1 read
    exact ⟨⟨_, hs⟩, ⟨_, ht⟩, mt (readLine_inj ht hs).2 other, ⟨_, hp⟩, ⟨_, ha⟩, delayed, ⟨_, hr⟩, ⟨_, hl⟩, ⟨_, hf⟩⟩
  · rintro ⟨⟨source, hs⟩, ⟨target, ht⟩, other, ⟨polarity, hp⟩, ⟨action, ha⟩, delayed, ⟨retrigger, hr⟩, ⟨late, hl⟩,
      ⟨report, hf⟩⟩
    exact ⟨⟨source, polarity, target, action, raw.delay, raw.shots.toNat, retrigger, late, report⟩,
      readFollow_eq_some.2 ⟨hs, hp, ht, ha, hr, hl, hf, mt (readLine_inj ht hs).1 other, delayed, rfl, rfl⟩⟩

/-- The settings taken are those sent (R124, R195). -/
theorem readFollow_fields (read : readFollow raw = some f) :
    f.source.val = raw.source.toNat ∧ f.polarity.code = raw.polarity ∧ f.target.val = raw.target.toNat
      ∧ f.action.code = raw.action ∧ widthOf f.action = (if 3 ≤ raw.action.toNat then raw.width.toNat else 0)
      ∧ f.delay = raw.delay ∧ f.shots = raw.shots.toNat ∧ f.retrigger.code = raw.retrigger ∧ f.late.code = raw.late
      ∧ f.report = decide (raw.report = 1) := by
  obtain ⟨hs, hp, ht, ha, hr, hl, hf, -, -, delay, shots⟩ := readFollow_eq_some.1 read
  obtain ⟨code, width⟩ := readAction_code ha
  exact ⟨readLine_eq_some.1 hs, readFollowPolarity_eq_some.1 hp, readLine_eq_some.1 ht, code, width, delay, shots,
    readRetrigger_eq_some.1 hr, readFollowLate_eq_some.1 hl, (readFlag_eq_decide hf).2⟩

end

/-! ## The requests on a rule (R124 to R128) -/

theorem readRuleId_above {id : Byte} (above : 8 ≤ id.toNat) : readRuleId id = none := dif_neg (by omega)

theorem ruleArmed_eq_any (r : Option FollowRule) : ruleArmed r = r.any fun r => r.status == .armed := by
  cases r <;> rfl

/-- R126: the rule is ARMED, and its shots refilled unless it was ARMED before. -/
theorem FollowRule.arm_eq (r : FollowRule) :
    r.arm = { r with
      status := .armed
      shotsRemaining := if r.status = .armed then r.shotsRemaining else r.settings.shots } := by
  obtain ⟨status, settings, shots, fires, misses⟩ := r
  cases status <;> rfl

/-- R127: a SPENT rule stays SPENT, any other is DISARMED. -/
theorem FollowRule.disarm_eq (r : FollowRule) :
    r.disarm = { r with status := if r.status = .spent then .spent else .disarmed } := by
  obtain ⟨status, settings, shots, fires, misses⟩ := r
  cases status <;> rfl

section
variable {id : Byte} {k : RuleId} {s : State}

theorem setFollowRequest_badField {raw : RawFollow} (bad : readRuleId id = none ∨ readFollow raw = none) :
    setFollowRequest id raw s = refuse .badField s := by
  unfold setFollowRequest
  rcases bad with rule | settings
  · rw [rule]
  · rw [settings]
    cases readRuleId id <;> rfl

/-- SET_FOLLOW of a rule that is not ARMED writes the rule; the reply reports it (R124, R125). -/
theorem setFollowRequest_read {raw : RawFollow} {f : FollowSettings} (hk : readRuleId id = some k)
    (hf : readFollow raw = some f) (unguarded : s.guarded = false) :
    setFollowRequest id raw s
      = if (s.rule k).any (fun r => r.status == .armed) then refuse .wrongState s
        else ruleReply k (s.setRule k (some (freshRule f))) := by
  rw [setFollowRequest, hk, hf, ← ruleArmed_eq_any]
  exact if_neg (by simp [unguarded])

theorem armFollowRequest_read (hk : readRuleId id = some k) (unguarded : s.guarded = false) :
    (s.rule k = none → armFollowRequest id s = refuse .wrongState s)
    ∧ ∀ r, s.rule k = some r → armFollowRequest id s
      = accept (.armed r.arm.status.state r.arm.shotsRemaining) (s.setRule k (some r.arm)) := by
  rw [armFollowRequest, hk]
  dsimp only
  rw [if_neg (by simp [unguarded])]
  exact ⟨fun empty => by rw [empty], fun r held => by rw [held]⟩

theorem disarmFollowRequest_read (hk : readRuleId id = some k) (unguarded : s.guarded = false) :
    (s.rule k = none → disarmFollowRequest id s = refuse .wrongState s)
    ∧ ∀ r, s.rule k = some r → disarmFollowRequest id s
      = accept (.ruleState r.disarm.status.state) (s.setRule k (some r.disarm)) := by
  rw [disarmFollowRequest, hk]
  dsimp only
  rw [if_neg (by simp [unguarded])]
  exact ⟨fun empty => by rw [empty], fun r held => by rw [held]⟩

theorem clearFollowRequest_read (hk : readRuleId id = some k) (unguarded : s.guarded = false) :
    clearFollowRequest id s
      = accept (.cleared ((s.agenda.find (followTag k)).map (·.phase))) (s.clearRule k) := by
  rw [clearFollowRequest, hk]
  exact if_neg (by simp [unguarded])

/-- Whether a condition holds, and what its reply says, does not rest on the rules (R184, R185). -/
theorem State.awaitTest_setRule (s : State) (ev : AwaitEvent) (k : RuleId) (r : Option FollowRule) :
    (s.setRule k r).awaitTest ev = (s.awaitTest ev).setRule k r := by
  have awaiting : (s.setRule k r).link.awaiting = s.link.awaiting := rfl
  unfold State.awaitTest
  rw [awaiting]
  cases s.link.awaiting with
  | none => rfl
  | some d =>
    have holds : d.condition.holds (s.setRule k r) = d.condition.holds s := by cases d.condition <;> rfl
    have reply : d.condition.reply .ok (s.setRule k r) = d.condition.reply .ok s := by cases d.condition <;> rfl
    dsimp only
    rw [holds]
    split
    · rw [State.answerDeferred, reply]; rfl
    · rfl

theorem State.clearRule_of_none (absent : s.agenda.find (followTag k) = none) : s.clearRule k = s.setRule k none := by
  rw [State.clearRule, absent]

/-- The rule is EMPTY and its entry removed; the removal is tested in the state so made (R101, R128, R186). -/
theorem State.clearRule_of_some {e : AgendaEntry} (found : s.agenda.find (followTag k) = some e) :
    s.clearRule k = ((s.setRule k none).removeEntry (followTag k)).awaitTest (.removal e.line) := by
  rw [State.clearRule, found]
  dsimp only
  rw [State.dropEntry, ← State.awaitTest_setRule, (Agenda.find_some found).2]
  rfl

end

end Sys2Proof.Machine

namespace Sys2Proof.Claims

open Sys2Proof.Machine Sys2Proof.Safety

/-- Settles O38: the settings taken, field by field; then the checks of SET_FOLLOW and the rule it writes. -/
theorem setFollowWritesTheRule : Obligations.SetFollowWritesTheRule := by
  refine ⟨fun raw => ⟨readFollow_isSome raw, fun f => readFollow_fields⟩, fun seq id raw s takes guard => ?_⟩
  have respond {t : State} {reply : Reply} (h : setFollowRequest id raw s = (t, some reply)) :
      exec (.setFollow seq id raw) s = .next (answered t seq (.setFollow id raw) reply) :=
    exec_answered 0 (by simp) rfl takes h
  dsimp only
  split
  · next k f hk hf =>
    have answer := setFollowRequest_read hk hf (guarded_eq_false guard)
    split
    · next armed => exact respond (answer.trans (if_pos armed))
    · next unarmed =>
      refine respond ((answer.trans (if_neg unarmed)).trans ?_)
      rw [ruleReply, ruleRecord_eq_reported]
      rfl
  · next missing =>
    refine respond (setFollowRequest_badField ?_)
    cases hk : readRuleId id with
    | none => exact .inl rfl
    | some k => exact .inr (Option.eq_none_iff_forall_ne_some.2 fun f => missing k f hk)

/-- Settles O39: an id out of range; then each of the three requests on the rule it names. -/
theorem armDisarmAndClearFollow : Obligations.ArmDisarmAndClearFollow := by
  refine ⟨fun seq id s above => ?_, fun seq id k s hk guard => ?_, fun seq id k s hk takes guard => ?_⟩
  · have out := readRuleId_above above
    refine ⟨fun takes => ?_, fun takes => ?_, fun takes => ?_⟩
    · exact exec_answered (r := .armFollow id) 0 (by simp) rfl takes (by rw [runRequest, armFollowRequest, out]; rfl)
    · exact exec_answered (r := .disarmFollow id) 0 (by simp) rfl takes
        (by rw [runRequest, disarmFollowRequest, out]; rfl)
    · exact exec_answered (r := .clearFollow id) 0 (by simp) rfl takes
        (by rw [runRequest, clearFollowRequest, out]; rfl)
  · have unguarded := guarded_eq_false guard
    refine ⟨fun takes => ?_, fun takes => ?_⟩
    · obtain ⟨empty, armed⟩ := armFollowRequest_read hk unguarded
      split
      · next none => exact exec_answered (r := .armFollow id) 0 (by simp) rfl takes (empty none)
      · next r held =>
        refine exec_answered (r := .armFollow id) 0 (by simp) rfl takes ((armed r held).trans ?_)
        rw [FollowRule.arm_eq]
        rfl
    · obtain ⟨empty, disarmed⟩ := disarmFollowRequest_read hk unguarded
      split
      · next none => exact exec_answered (r := .disarmFollow id) 0 (by simp) rfl takes (empty none)
      · next r held =>
        refine exec_answered (r := .disarmFollow id) 0 (by simp) rfl takes ((disarmed r held).trans ?_)
        rw [FollowRule.disarm_eq]
        cases r.status <;> rfl
  · have answer := clearFollowRequest_read hk (guarded_eq_false guard)
    have respond {t : State} {reply : Reply} (h : clearFollowRequest id s = (t, some reply)) :
        exec (.clearFollow seq id) s = .next (answered t seq (.clearFollow id) reply) :=
      exec_answered 0 (by simp) rfl takes h
    dsimp only
    split
    · next absent =>
      change s.agenda.find (followTag k) = none at absent
      refine respond ?_
      rw [answer, State.clearRule_of_none absent, absent]
      rfl
    · next e found =>
      change s.agenda.find (followTag k) = some e at found
      refine respond ?_
      rw [answer, State.clearRule_of_some found, found]
      rfl

end Sys2Proof.Claims
end

section
/-! A capture tried against the rules, and what a match of one does. -/

namespace Sys2Proof.Machine

open Sys2Proof.Claims Sys2Proof.Safety

/-! ## The rules in turn (R130) -/

theorem FollowPolarity.accepts_iff (p : FollowPolarity) (edge : Edge) :
    p.accepts edge = true ↔ p = .either ∨ (p = .rise ∧ edge = .rise) ∨ (p = .fall ∧ edge = .fall) := by
  cases p <;> cases edge <;> decide

/-- R130's three conditions. -/
theorem FollowRule.matchesCapture_iff (r : FollowRule) (c : Capture) :
    r.matchesCapture c = true ↔ r.status = .armed ∧ r.settings.source = c.line
      ∧ (r.settings.polarity = .either ∨ (r.settings.polarity = .rise ∧ c.polarity = .rise)
        ∨ (r.settings.polarity = .fall ∧ c.polarity = .fall)) := by
  rw [FollowRule.matchesCapture, Bool.and_eq_true, Bool.and_eq_true, beq_iff_eq, beq_iff_eq,
    FollowPolarity.accepts_iff, and_assoc]

section
variable {s : State} {k : RuleId} {r : FollowRule} {c : Capture}

/-! ## A miss (R132 to R135, R137) -/

/-- A miss is counted in its rule and reported when the rule reports; nothing else (R137). -/
theorem State.missRule_eq (s : State) (k : RuleId) (r : FollowRule) (reason : MissReason) (c : Capture) :
    s.missRule k r reason c
      = { s with
          rules := s.rules.set k (some { r with misses := if r.misses < 4294967295 then r.misses + 1 else r.misses })
          notices := if r.settings.report then s.notices.raise s.timebase.time (.followMiss k reason c.stamp)
            else s.notices } := by
  unfold State.missRule State.raiseIf
  split <;> rfl

/-- A match misses for the first reason that applies (R132 to R135). -/
theorem State.matchRule_misses {reason : MissReason} (misses : missReason s k r c = some reason) :
    s.matchRule k r c = (s.missRule k r reason c, false) := by
  unfold missReason at misses
  unfold State.matchRule
  dsimp only at misses ⊢
  split at misses
  · next other => cases misses; exact if_pos (by simp [other])
  next drive =>
  rw [if_neg (by simpa using drive)]
  split at misses
  · next late => cases misses; exact if_pos late
  next punctual =>
  refine (if_neg punctual).trans ?_
  split at misses
  · next busy =>
    cases misses
    obtain ⟨e, found⟩ := Option.isSome_iff_exists.1 busy.1
    rw [State.retriggerTest, show s.agenda.find (followTag k) = some e from found, busy.2]
  split at misses
  · next full =>
    cases misses
    obtain ⟨absent, need, occupied⟩ := full
    rw [State.retriggerTest, show s.agenda.find (followTag k) = none from absent]
    rw [not_not] at need
    exact if_pos ⟨need, Agenda.free_eq_zero.2 occupied⟩
  · cases misses

/-! ## A fire's frame (R136) -/

/-- A fire makes room for and places its edge: the lines and the agenda's entries, nothing else. -/
theorem State.placeFire_cleared_frame (s : State) (k : RuleId) (r : FollowRule) (due : Stamp) :
    ∃ (lines : Bank 16 Line) (entries : List AgendaEntry),
      (s.cleared k).placeFire k r due = { s with lines := lines, agenda := { s.agenda with entries := entries } } := by
  rw [State.placeFire_eq, State.cleared_eq]
  dsimp only
  split
  · exact ⟨_, _, rfl⟩
  · cases r.settings.action with
    | single => exact ⟨_, _, rfl⟩
    | pulse => exact ⟨_, _, rfl⟩

end

end Sys2Proof.Machine

namespace Sys2Proof.Claims

open Sys2Proof.Machine Sys2Proof.Safety

/-- Settles O40: one rule of the fold as R130 has it; then a match with a reason to miss, and one without. -/
theorem matchMissesOrFires : Obligations.MatchMissesOrFires := by
  refine ⟨fun s c => ?_, fun s k r c ok _ armed => ⟨fun reason misses => ?_, fun fires => ?_⟩⟩
  · refine congrArg (fun step => allRules.foldl step (s, [])) (funext₂ fun acc k => ?_)
    unfold tryRule
    cases acc.1.rule k with
    | none => rfl
    | some r => simp only [FollowRule.matchesCapture_iff]
  · rw [State.matchRule_misses misses, State.missRule_eq]
  · obtain ⟨lines, entries, placed⟩ := s.placeFire_cleared_frame k r (after c.stamp r.settings.delay)
    refine ⟨lines, entries, ?_⟩
    rw [State.matchRule_fires ok fires, State.countFire_eq _ armed, placed]
    rfl

end Sys2Proof.Claims
end

section
/-! The transmitter's choice, the raising of a notice, ACK_NOTICES, the completions of notice frames and the expiries of
the service timers, as their statements give them. -/

namespace Sys2Proof.Machine

open Sys2Proof.Safety

/-! ## The transmitter's choice (R175) -/

section
variable {s : State}

theorem State.offered_of_reply {f : ReplyFrame} (reply : s.link.replySlot = some f) : s.offered = some (.reply f) := by
  simp only [State.offered, reply]

variable (noReply : s.link.replySlot = none)
include noReply

theorem State.offered_of_deferredReply {f : ReplyFrame} (slot : s.link.deferredSlot = some f) :
    s.offered = some (.deferredReply f) := by
  simp only [State.offered, noReply, slot]

variable (noDeferred : s.link.deferredSlot = none)
include noDeferred

theorem State.offered_of_unsent {n : Notice} (oldest : s.notices.records.find? (!·.sent) = some n) :
    s.offered = some (.firstSending n.content) := by
  simp only [State.offered, noReply, noDeferred, oldest]

variable (allSent : s.notices.records.find? (!·.sent) = none)
include allSent

theorem State.offered_of_marked {n : Notice} (oldest : s.notices.records.find? (·.mark) = some n) :
    s.offered = some (.repeatSending n.content) := by
  simp only [State.offered, noReply, noDeferred, allSent, oldest]

theorem State.offered_eq_none (unmarked : s.notices.records.find? (·.mark) = none) : s.offered = none := by
  simp only [State.offered, noReply, noDeferred, allSent, unmarked]

end

/-- The mark taken off is that of the oldest marked record (R151). -/
theorem unmarkFirst_append {plain : List Notice} (unmarked : ∀ m ∈ plain, m.mark = false) {n : Notice}
    (marked : n.mark = true) (rest : List Notice) :
    unmarkFirst (plain ++ n :: rest) = plain ++ { n with mark := false } :: rest := by
  induction plain with
  | nil => exact if_pos marked
  | cons m plain ih =>
    obtain ⟨first, others⟩ := List.forall_mem_cons.1 unmarked
    rw [List.cons_append, unmarkFirst, first, if_neg Bool.false_ne_true, ih others, List.cons_append]

/-! ## Raising a notice (R144 to R146) -/

section
variable {q : NoticeQueue} {now : Stamp} {b : NoticeBody}

theorem NoticeQueue.raise_masked (off : maskEnables q.mask b = false) : q.raise now b = q := by
  rw [NoticeQueue.raise, off, if_neg Bool.false_ne_true]

theorem NoticeQueue.raise_room (on : maskEnables q.mask b = true) (room : q.records.length < 31) :
    q.raise now b = q.append now b := (if_pos on).trans (if_pos room)

theorem NoticeQueue.raise_full (on : maskEnables q.mask b = true) (full : 31 ≤ q.records.length) :
    q.raise now b = q.lose now := (if_pos on).trans (if_neg full.not_gt)

/-- A loss is counted in the UNSENT NOTICE_LOST at the tail (R146 case 1). -/
theorem NoticeQueue.lose_counted {older : List Notice} {n : Notice} (records : q.records = older ++ [n]) {count : Nat}
    (isOpen : n.openLoss = some count) :
    q.lose now = { q with records := older ++ [n.withLoss (satInc32 count)] } := by
  have last : q.records.getLast? = some n := by rw [records, List.getLast?_concat]
  have init : q.records.dropLast = older := by rw [records, List.dropLast_concat]
  simp only [NoticeQueue.lose, last, Option.bind_some, isOpen, Option.map_some, init]

/-- A tail that is SENT or no NOTICE_LOST counts no further loss. -/
theorem Notice.openLoss_eq_none {n : Notice} (h : n.sent = true ∨ isLost n = false) : n.openLoss = none := by
  rw [Option.eq_none_iff_forall_ne_some]
  intro count isOpen
  obtain ⟨body, unsent⟩ := Notice.openLoss_eq_some.1 isOpen
  rcases h with sent | other
  · rw [unsent] at sent
    cases sent
  · rw [isLost, body] at other
    cases other

/-- Without an UNSENT NOTICE_LOST at the tail a loss takes the 32nd place or is pending (R146 cases 2 and 3). -/
theorem NoticeQueue.lose_closed (closed : ∀ n ∈ q.records.getLast?, n.sent = true ∨ isLost n = false) :
    q.lose now = if q.records.length = 31 then q.append now (.noticeLost 1)
      else { q with pendingLost := satInc32 q.pendingLost } := by
  have noCount : q.records.getLast?.bind (fun n => n.openLoss.map (n.withLoss <| satInc32 ·)) = none := by
    rw [Option.bind_eq_none_iff]
    intro n last
    rw [Notice.openLoss_eq_none (closed n last), Option.map_none]
  rw [NoticeQueue.lose, noCount]
  rfl

end

/-! ## ACK_NOTICES (R153, R154) -/

/-- The records held after an acknowledgement through position `p`: those behind it, and the NOTICE_LOST of a pending
count. -/
def NoticeQueue.kept (q : NoticeQueue) (now : Stamp) (p : Nat) : List Notice :=
  q.records.drop (p + 1)
    ++ if q.pendingLost = 0 then [] else [freshNotice q.nextNseq now (.noticeLost q.pendingLost)]

theorem NoticeQueue.acknowledge_eq (q : NoticeQueue) (now : Stamp) (p : Nat) :
    q.acknowledge now p = { q with
      records := q.kept now p
      nextNseq := if q.pendingLost = 0 then q.nextNseq else q.nextNseq + 1
      pendingLost := 0
      timer := if q.kept now p = [] ∨ q.interval = 0 then none else some 0 } := by
  have reported : ({ q with records := q.records.drop (p + 1) } : NoticeQueue).reportLost now = { q with
      records := q.kept now p
      nextNseq := if q.pendingLost = 0 then q.nextNseq else q.nextNseq + 1
      pendingLost := 0 } := by
    unfold NoticeQueue.reportLost NoticeQueue.kept
    by_cases zero : q.pendingLost = 0
    · simp [zero]
    · simp [zero, Nat.pos_of_ne_zero zero, NoticeQueue.append]
  rw [NoticeQueue.acknowledge, reported, NoticeQueue.retime]
  simp only [Bool.or_eq_true, List.isEmpty_iff, beq_iff_eq]

section
variable {upto : Half} {s : State}

theorem ackNoticesRequest_notFound (absent : s.notices.records[s.notices.position upto]? = none) :
    ackNoticesRequest upto s = refuseWith .notFound (s.notices.report 0) s := by
  simp only [ackNoticesRequest, absent]

variable {n : Notice} (held : s.notices.records[s.notices.position upto]? = some n)
include held

theorem ackNoticesRequest_notSent (unsent : n.sent = false) :
    ackNoticesRequest upto s = refuseWith .notSent (s.notices.report 0) s := by
  simp only [ackNoticesRequest, held, unsent, Bool.false_eq_true, if_false]

theorem ackNoticesRequest_accepted (sent : n.sent = true) :
    ackNoticesRequest upto s
      = acknowledgedReply (s.notices.position upto + 1)
          { s with notices := s.notices.acknowledge s.timebase.time (s.notices.position upto) } := by
  simp only [ackNoticesRequest, held, sent, if_true]

end

/-! ## Completions of notice frames (R148, R150) -/

theorem markSent_other {c : NoticeContent} {l : List Notice} (other : ∀ m ∈ l, m.content ≠ c) : markSent c l = l :=
  (List.map_congr_left fun m hm => if_neg (other m hm)).trans (List.map_id l)

/-- A completion settles the one record that its frame can have carried. -/
theorem NoticeQueue.settle_eq {q : NoticeQueue} {c : NoticeContent} {older newer : List Notice} {n : Notice}
    (records : q.records = older ++ n :: newer) (other : ∀ m ∈ older ++ newer, m.content ≠ c) :
    q.settle c = { q with
      records := older ++ sentIf c n :: newer
      timer := if n.content = c ∧ q.timer = none ∧ q.interval ≠ 0 then some 0 else q.timer } := by
  obtain ⟨otherOlder, otherNewer⟩ := List.forall_mem_append.1 other
  have marked : markSent c q.records = older ++ sentIf c n :: newer := by
    have split : markSent c q.records = markSent c older ++ sentIf c n :: markSent c newer := by
      rw [records]
      exact List.map_append
    rw [split, markSent_other otherOlder, markSent_other otherNewer]
  have carried : (q.records.any fun m => m.content = c) = decide (n.content = c) := by
    have absent (l : List Notice) (hl : ∀ m ∈ l, m.content ≠ c) : (l.any fun m => m.content = c) = false := by
      simpa using hl
    rw [records, List.any_append, List.any_cons, absent older otherOlder, absent newer otherNewer, Bool.false_or,
      Bool.or_false]
  rw [NoticeQueue.settle, marked, carried]
  simp only [Bool.and_eq_true, decide_eq_true_eq, Option.isNone_iff_eq_none, bne_iff_ne, and_assoc]

theorem State.noticeSent_eq {s : State} {c : NoticeContent} (first : s.link.tx.firstSent = some c) :
    s.noticeSent = { s with notices := s.notices.settle c }.endFrame := by
  simp only [State.noticeSent, first]

/-! ## The repeat timer (R150, R151) -/

/-- A SENT record receives a mark, an UNSENT one keeps what it has. -/
theorem markRepeats_eq (l : List Notice) :
    markRepeats l = l.map fun m => if m.sent then { m with mark := true } else m := by
  refine List.map_congr_left fun m _ => ?_
  obtain ⟨content, sent, mark⟩ := m
  cases sent <;> simp

theorem NoticeQueue.expire_eq (q : NoticeQueue) :
    q.expire = { q with
      records := q.records.map fun m => if m.sent then { m with mark := true } else m
      timer := if ∃ n ∈ q.records, n.sent = true then some 0 else none } := by
  have any : q.anySent = true ↔ ∃ n ∈ q.records, n.sent = true := List.any_eq_true
  unfold NoticeQueue.expire
  by_cases sent : ∃ n ∈ q.records, n.sent = true
  · rw [if_pos (any.2 sent), if_pos sent, markRepeats_eq]
  · have same : (q.records.map fun m => if m.sent then { m with mark := true } else m) = q.records :=
      (List.map_congr_left fun m hm => if_neg fun h => sent ⟨m, hm, h⟩).trans (List.map_id _)
    rw [if_neg (any.not.2 sent), if_neg sent, same]

end Sys2Proof.Machine

namespace Sys2Proof.Claims

open Sys2Proof.Machine Sys2Proof.Safety

/-- Settles O59: every move of a step keeps the records, the counts and the first sending, and the reset values satisfy
them. -/
theorem stepKeepsTheNotices : Obligations.StepKeepsTheNotices := fun _ _ hs h => step_keeps_noticesOk hs h

/-- Settles O51: a busy transmitter; then each source in R175's order. -/
theorem transmitterChoosesInOrder : Obligations.TransmitterChoosesInOrder := by
  refine fun s => ⟨State.transmit_busy, fun idle => ⟨fun f reply => ?_, fun f noReply slot => ?_,
    fun noReply noDeferred => ⟨fun sent rest n records before unsent => ?_, fun allSent => ?_⟩⟩⟩
  · exact State.transmit_idle idle (State.offered_of_reply reply)
  · exact State.transmit_idle idle (State.offered_of_deferredReply noReply slot)
  · have oldest : s.notices.records.find? (!·.sent) = some n :=
      List.find?_eq_some_iff_append.2 ⟨by simp [unsent], sent, rest, records, fun m hm => by simp [before m hm]⟩
    exact State.transmit_idle idle (State.offered_of_unsent noReply noDeferred oldest)
  · have noneUnsent : s.notices.records.find? (!·.sent) = none := List.find?_eq_none.2 (by simpa using allSent)
    refine ⟨fun plain rest n records before marked => ?_, fun unmarked => ?_⟩
    · have oldest : s.notices.records.find? (·.mark) = some n :=
        List.find?_eq_some_iff_append.2 ⟨marked, plain, rest, records, fun m hm => by simp [before m hm]⟩
      rw [State.transmit_idle idle (State.offered_of_marked noReply noDeferred noneUnsent oldest),
        ← unmarkFirst_append before marked, ← records]
      rfl
    · have noneMarked : s.notices.records.find? (·.mark) = none := List.find?_eq_none.2 (by simpa using unmarked)
      exact State.transmit_none (State.offered_eq_none noReply noDeferred noneUnsent noneMarked)

/-- Settles O42: the mask's positions; then the three outcomes of an enabled notice, and the three of a lost one. -/
theorem raisingANotice : Obligations.RaisingANotice := by
  intro q now body enabled fresh
  have mask : maskEnables q.mask body = enabled := by cases body <;> rfl
  rw [← mask]
  refine ⟨NoticeQueue.raise_masked, NoticeQueue.raise_room, fun on full => ?_⟩
  rw [NoticeQueue.raise_full on full]
  refine ⟨fun older n count records unsent lost => ?_, fun closed thirtyOne => ?_, fun closed thirtyTwo => ?_⟩
  · exact NoticeQueue.lose_counted records (Notice.openLoss_eq_some.2 ⟨lost, unsent⟩)
  · exact (NoticeQueue.lose_closed closed).trans (if_pos thirtyOne)
  · exact (NoticeQueue.lose_closed closed).trans (if_neg (by omega))

/-- Settles O43: the two refusals, then the acknowledgement with its report. -/
theorem ackNoticesRemovesSentRecords : Obligations.AckNoticesRemovesSentRecords := by
  intro seq n s takes
  have respond {t : State} {reply : Reply} (h : ackNoticesRequest n s = (t, some reply)) :
      exec (.ackNotices seq n) s = .next (answered t seq (.ackNotices n) reply) :=
    exec_answered 0 (by simp) rfl takes h
  dsimp only
  split
  · next absent => exact respond (ackNoticesRequest_notFound absent)
  next named held =>
  split
  · next unsent => exact respond (ackNoticesRequest_notSent held unsent)
  next sent =>
  refine respond ((ackNoticesRequest_accepted held (by simpa using sent)).trans ?_)
  rw [NoticeQueue.acknowledge_eq]
  rfl

/-- Settles O45: the first sending's record is settled; a repeat's completion only ends its frame. -/
theorem noticeFramesComplete : Obligations.NoticeFramesComplete := by
  refine fun s c alive => ⟨fun older newer n tx records other => ?_, fun tx => ?_⟩
  · have first : s.link.tx.firstSent = some c := by rw [tx]; rfl
    have occurs : s.link.tx.firstSent.isSome = true := by rw [first]; rfl
    refine (eventIf_next (·.link.tx.firstSent.isSome) State.noticeSent s alive occurs).trans ?_
    rw [State.noticeSent_eq first, NoticeQueue.settle_eq records other]
    rfl
  · have occurs : s.link.tx.repeated.isSome = true := by rw [tx]; rfl
    exact eventIf_next (·.link.tx.repeated.isSome) State.endFrame s alive occurs

/-- Settles O46: the deferred request awaited is answered; the repeat timer's expiry as the queue takes it. -/
theorem serviceTimerExpiries : Obligations.ServiceTimerExpiries := by
  refine ⟨fun s d n alive deferred runs => ?_, fun s n alive runs => ?_⟩
  · have awaiting : s.link.awaiting = some d := Option.filter_eq_some_iff.2 ⟨deferred, by rw [runs]; rfl⟩
    have occurs : s.link.awaiting.isSome = true := by rw [awaiting]; rfl
    refine (eventIf_next (·.link.awaiting.isSome) State.awaitExpiry s alive occurs).trans ?_
    rw [State.awaitExpiry, awaiting]
    rfl
  · have occurs : s.notices.timer.isSome = true := by rw [runs]; rfl
    refine (eventIf_next (·.notices.timer.isSome) State.repeatExpiry s alive occurs).trans ?_
    rw [State.repeatExpiry, NoticeQueue.expire_eq]

end Sys2Proof.Claims
end

section
/-! Requests read back from their frames: the bytes of numbers, the payload of every request, and the link's acceptance
checks. -/

namespace Sys2Proof

open Sys2Proof.Claims

/-! ## Numbers read back from their bytes (R195) -/

theorem extractLsb'_append_next {w : Nat} (v : BitVec w) (start len : Nat) :
    v.extractLsb' (start + 8) len ++ v.extractLsb' start 8 = v.extractLsb' start (len + 8) :=
  BitVec.extractLsb'_append_extractLsb'_eq_extractLsb' rfl

@[simp] theorem word16_bytes (v : BitVec 16) : word16 (v.extractLsb' 0 8) (v.extractLsb' 8 8) = v :=
  (extractLsb'_append_next v 0 8).trans BitVec.extractLsb'_eq_self

@[simp] theorem word24_bytes (v : BitVec 24) :
    word24 (v.extractLsb' 0 8) (v.extractLsb' 8 8) (v.extractLsb' 16 8) = v := by
  rw [word24, extractLsb'_append_next v 8 8]
  exact (extractLsb'_append_next v 0 16).trans BitVec.extractLsb'_eq_self

@[simp] theorem word32_bytes (v : BitVec 32) :
    word32 (v.extractLsb' 0 8) (v.extractLsb' 8 8) (v.extractLsb' 16 8) (v.extractLsb' 24 8) = v := by
  rw [word32, extractLsb'_append_next v 16 8, extractLsb'_append_next v 8 16]
  exact (extractLsb'_append_next v 0 24).trans BitVec.extractLsb'_eq_self

@[simp] theorem word48_bytes (v : BitVec 48) :
    word48 (v.extractLsb' 0 8) (v.extractLsb' 8 8) (v.extractLsb' 16 8) (v.extractLsb' 24 8) (v.extractLsb' 32 8)
      (v.extractLsb' 40 8) = v := by
  rw [word48, extractLsb'_append_next v 32 8, extractLsb'_append_next v 24 16, extractLsb'_append_next v 16 24,
    extractLsb'_append_next v 8 32]
  exact (extractLsb'_append_next v 0 40).trans BitVec.extractLsb'_eq_self

/-! ## Lists of orders and of edges (R196, R199) -/

theorem readOrders_bytes (orders : List RawOrder) : readOrders (orders.flatMap RawOrder.bytes) = some orders := by
  induction orders with
  | nil => rfl
  | cons o rest ih => simp [RawOrder.bytes, bytes16, bytes24, bytes48, readOrders, ih]

theorem readEdges_bytes (edges : List RawEdge) : readEdges (edges.flatMap RawEdge.bytes) = some edges := by
  induction edges with
  | nil => rfl
  | cons e rest ih => simp [RawEdge.bytes, bytes16, readEdges, ih]

theorem readOrders_length {payload : List Byte} {orders : List RawOrder} (read : readOrders payload = some orders) :
    payload.length = 15 * orders.length := by
  induction payload using readOrders.induct generalizing orders with
  | case1 => cases read; rfl
  | case2 _ _ _ _ _ _ _ _ _ _ _ _ _ _ _ rest ih =>
    obtain ⟨others, readRest, rfl⟩ := Option.map_eq_some_iff.1 read
    simp only [List.length_cons, ih readRest]
    omega
  | case3 payload short long => rw [readOrders.eq_3 payload short long] at read; cases read

theorem readEdges_length {payload : List Byte} {edges : List RawEdge} (read : readEdges payload = some edges) :
    payload.length = 3 * edges.length := by
  induction payload using readEdges.induct generalizing edges with
  | case1 => cases read; rfl
  | case2 _ _ _ rest ih =>
    obtain ⟨others, readRest, rfl⟩ := Option.map_eq_some_iff.1 read
    simp only [List.length_cons, ih readRest]
    omega
  | case3 payload short long => rw [readEdges.eq_3 payload short long] at read; cases read

/-! ## The payload of a request (R196) -/

/-- WRITE_SLOT's payload: three bytes, then edges. -/
theorem parseRequest_writeSlot (line slot boundary : Byte) (rest : List Byte) :
    parseRequest 0x14 (line :: slot :: boundary :: rest)
      = (readEdges rest).elim .badLength fun edges =>
          if rest.length + 3 ≤ 240 then .request (.writeSlot line slot boundary edges) else .badLength := by
  change (match readEdges rest with
    | some edges => if rest.length + 3 ≤ 240 then Parsed.request (.writeSlot line slot boundary edges) else .badLength
    | none => .badLength) = _
  cases readEdges rest <;> rfl

/-- SCHEDULE's payload: orders. -/
theorem parseRequest_schedule (payload : List Byte) :
    parseRequest 0x20 payload
      = (readOrders payload).elim .badLength fun orders =>
          if payload.length ≤ 240 then .request (.schedule orders) else .badLength := by
  change (match readOrders payload with
    | some orders => if payload.length ≤ 240 then Parsed.request (.schedule orders) else .badLength
    | none => .badLength) = _
  cases readOrders payload <;> rfl

section
variable {rest payload : List Byte} {edges : List RawEdge} {orders : List RawOrder}

theorem parseRequest_writeSlot_read (line slot boundary : Byte) (read : readEdges rest = some edges)
    (fits : rest.length + 3 ≤ 240) :
    parseRequest 0x14 (line :: slot :: boundary :: rest) = .request (.writeSlot line slot boundary edges) := by
  rw [parseRequest_writeSlot, read]
  exact if_pos fits

theorem parseRequest_schedule_read (read : readOrders payload = some orders) (fits : payload.length ≤ 240) :
    parseRequest 0x20 payload = .request (.schedule orders) := by
  rw [parseRequest_schedule, read]
  exact if_pos fits

end

/-- Every request's payload reads back as that request. -/
theorem parseRequest_payload {r : Request} (fits : r.wellFormed = true) :
    parseRequest r.kind r.payload = .request r := by
  have short : r.payload.length ≤ 240 := of_decide_eq_true fits
  cases r with
  | writeSlot line slot boundary edges =>
    exact parseRequest_writeSlot_read line slot boundary (readEdges_bytes edges) short
  | schedule orders => exact parseRequest_schedule_read (readOrders_bytes orders) short
  | await c argument timeout =>
    exact congrArg₂ (fun a t => Parsed.request (.await c a t)) (word48_bytes argument) (word16_bytes timeout)
  | setTimebase exponent length guard =>
    exact congrArg (fun l => Parsed.request (.setTimebase exponent l guard)) (word32_bytes length)
  | setLine line mode polarity filter idle holdAction =>
    exact congrArg (fun f => Parsed.request (.setLine line mode polarity f idle holdAction)) (word16_bytes filter)
  | readCaptures source q max =>
    exact congrArg (fun q => Parsed.request (.readCaptures source q max)) (word16_bytes q)
  | releaseCaptures upto => exact congrArg (fun n => Parsed.request (.releaseCaptures n)) (word16_bytes upto)
  | setQueue watermark => exact congrArg (fun w => Parsed.request (.setQueue w)) (word16_bytes watermark)
  | cancel tag complete => exact congrArg (fun t => Parsed.request (.cancel t complete)) (word16_bytes tag)
  | setFollow id f =>
    have settings : parseRequest 0x28 (id :: f.bytes) = .request (.setFollow id
        { f with
          width := word24 (f.width.extractLsb' 0 8) (f.width.extractLsb' 8 8) (f.width.extractLsb' 16 8)
          delay := word24 (f.delay.extractLsb' 0 8) (f.delay.extractLsb' 8 8) (f.delay.extractLsb' 16 8)
          shots := word16 (f.shots.extractLsb' 0 8) (f.shots.extractLsb' 8 8) }) := rfl
    rw [word24_bytes, word24_bytes, word16_bytes] at settings
    exact settings
  | ackNotices upto => exact congrArg (fun n => Parsed.request (.ackNotices n)) (word16_bytes upto)
  | _ => rfl

/-! ## The acceptance checks (R170) -/

/-- The request kinds are those that some length is allowed for (R196). -/
theorem knownKind_iff (kind : BitVec 6) : knownKind kind = true ↔ ∃ n, lengthAllowed kind n := by
  have edges : ∃ n, 3 ≤ n ∧ (n - 3) % 3 = 0 := ⟨3, by decide⟩
  have orders : ∃ n, n % 15 = 0 := ⟨0, rfl⟩
  simp only [lengthAllowed, exists_or, exists_and_left, exists_eq, and_true, edges, orders]
  revert kind
  decide

/-- The bytes of a payload, one by one. -/
theorem exists_ofFn_of_length {payload : List Byte} {n : Nat} (length : payload.length = n) :
    ∃ b : Fin n → Byte, payload = List.ofFn b := by
  subst length
  exact ⟨payload.get, (List.ofFn_get payload).symm⟩

theorem readEdges_of_length (n : Nat) {payload : List Byte} (length : payload.length = 3 * n) :
    ∃ edges, readEdges payload = some edges := by
  induction n generalizing payload with
  | zero => exact ⟨[], by rw [List.length_eq_zero_iff.1 length]; rfl⟩
  | succ n ih =>
    obtain ⟨others, read⟩ := ih (payload := payload.drop 3) (by rw [List.length_drop]; omega)
    obtain ⟨b, first⟩ := exists_ofFn_of_length (payload := payload.take 3) (n := 3) (by rw [List.length_take]; omega)
    obtain ⟨edge, step⟩ : ∃ edge, readEdges (List.ofFn b ++ payload.drop 3)
        = (readEdges (payload.drop 3)).map (edge :: ·) := ⟨_, rfl⟩
    rw [← first, List.take_append_drop, read] at step
    exact ⟨edge :: others, step⟩

theorem readOrders_of_length (n : Nat) {payload : List Byte} (length : payload.length = 15 * n) :
    ∃ orders, readOrders payload = some orders := by
  induction n generalizing payload with
  | zero => exact ⟨[], by rw [List.length_eq_zero_iff.1 length]; rfl⟩
  | succ n ih =>
    obtain ⟨others, read⟩ := ih (payload := payload.drop 15) (by rw [List.length_drop]; omega)
    obtain ⟨b, first⟩ := exists_ofFn_of_length (payload := payload.take 15) (n := 15) (by rw [List.length_take]; omega)
    obtain ⟨order, step⟩ : ∃ order, readOrders (List.ofFn b ++ payload.drop 15)
        = (readOrders (payload.drop 15)).map (order :: ·) := ⟨_, rfl⟩
    rw [← first, List.take_append_drop, read] at step
    exact ⟨order :: others, step⟩

/-- The kinds of which R196 allows one length only, each with that length. -/
def fixedLengths : List (BitVec 6 × Nat) :=
  [0x01, 0x04, 0x09, 0x0B, 0x0C, 0x11].map (·, 0) ++ [0x02, 0x08, 0x15, 0x22, 0x29, 0x2A, 0x2B, 0x2C].map (·, 1)
    ++ [0x19, 0x1A, 0x23, 0x30, 0x31].map (·, 2)
    ++ [(0x21, 3), (0x18, 4), (0x0A, 6), (0x10, 7), (0x03, 9), (0x28, 16)]

theorem lengthAllowed_iff (kind : BitVec 6) (n : Nat) :
    lengthAllowed kind n
      ↔ (kind, n) ∈ fixedLengths ∨ (kind = 0x14 ∧ 3 ≤ n ∧ (n - 3) % 3 = 0) ∨ (kind = 0x20 ∧ n % 15 = 0) := by
  have mem_map (kinds : List (BitVec 6)) (m : Nat) : (kind, n) ∈ kinds.map (·, m) ↔ kind ∈ kinds ∧ n = m := by
    simp [eq_comm]
  simp only [lengthAllowed, fixedLengths, List.mem_append, mem_map, List.mem_cons, List.not_mem_nil, or_false,
    Prod.mk.injEq, or_assoc]
  exact Iff.rfl

section
variable {e : BitVec 6 × Nat} (fixed : e ∈ fixedLengths)
include fixed

theorem parseRequest_fixed (b : Fin e.2 → Byte) : ∃ r, parseRequest e.1 (List.ofFn b) = .request r := by
  fin_cases fixed <;> exact ⟨_, rfl⟩

theorem parseRequest_shorter {n : Nat} (less : n < e.2) (b : Fin n → Byte) :
    parseRequest e.1 (List.ofFn b) = .badLength := by
  fin_cases fixed <;> dsimp only at less <;> interval_cases n <;> rfl

theorem parseRequest_longer (b : Fin (e.2 + 1) → Byte) (rest : List Byte) :
    parseRequest e.1 (List.ofFn b ++ rest) = .badLength := by
  fin_cases fixed <;> rfl

theorem parseRequest_otherLength {payload : List Byte} (other : payload.length ≠ e.2) :
    parseRequest e.1 payload = .badLength := by
  rcases Nat.lt_or_gt_of_ne other with less | more
  · obtain ⟨b, bytes⟩ := exists_ofFn_of_length (payload := payload) rfl
    rw [bytes]
    exact parseRequest_shorter fixed less b
  · obtain ⟨b, first⟩ := exists_ofFn_of_length (payload := payload.take (e.2 + 1)) (n := e.2 + 1)
      (by rw [List.length_take]; omega)
    rw [← List.take_append_drop (e.2 + 1) payload, first]
    exact parseRequest_longer fixed b _

end

/-- A payload of an allowed length is some request's. -/
theorem parseRequest_of_lengthAllowed {kind : BitVec 6} {payload : List Byte} (short : payload.length ≤ 240)
    (allowed : lengthAllowed kind payload.length) : ∃ r, parseRequest kind payload = .request r := by
  rcases (lengthAllowed_iff kind _).1 allowed with fixed | ⟨rfl, three, whole⟩ | ⟨rfl, whole⟩
  · obtain ⟨b, bytes⟩ := exists_ofFn_of_length (payload := payload) rfl
    rw [bytes]
    exact parseRequest_fixed fixed b
  · obtain ⟨b, first⟩ := exists_ofFn_of_length (payload := payload.take 3) (n := 3) (by rw [List.length_take]; omega)
    have rest : (payload.drop 3).length = payload.length - 3 := List.length_drop
    obtain ⟨edges, read⟩ := readEdges_of_length ((payload.length - 3) / 3) (payload := payload.drop 3) (by omega)
    have fits : (payload.drop 3).length + 3 ≤ 240 := by omega
    rw [← List.take_append_drop 3 payload, first]
    exact ⟨_, parseRequest_writeSlot_read (b 0) (b 1) (b 2) read fits⟩
  · obtain ⟨orders, read⟩ := readOrders_of_length (payload.length / 15) (payload := payload) (by omega)
    exact ⟨_, parseRequest_schedule_read read short⟩

/-- A kind of some length refuses every other length. -/
theorem parseRequest_of_not_lengthAllowed {kind : BitVec 6} {payload : List Byte} (known : ∃ n, lengthAllowed kind n)
    (other : ¬ lengthAllowed kind payload.length) : parseRequest kind payload = .badLength := by
  obtain ⟨n, allowed⟩ := known
  rw [lengthAllowed_iff] at other
  rcases (lengthAllowed_iff kind n).1 allowed with fixed | ⟨rfl, -, -⟩ | ⟨rfl, -⟩
  · exact parseRequest_otherLength fixed fun same => other (.inl (same ▸ fixed))
  · match payload with
    | line :: slot :: boundary :: rest =>
      cases read : readEdges rest with
      | none => rw [parseRequest_writeSlot, read]; rfl
      | some edges =>
        have whole : (line :: slot :: boundary :: rest).length = 3 * edges.length + 3 := by
          rw [← readEdges_length read]; rfl
        exact absurd (.inr (.inl ⟨rfl, by omega, by omega⟩)) other
    | [] => rfl
    | [_] => rfl
    | [_, _] => rfl
  · cases read : readOrders payload with
    | none => rw [parseRequest_schedule, read]; rfl
    | some orders =>
      have whole := readOrders_length read
      exact absurd (.inr (.inr ⟨rfl, by omega⟩)) other

theorem parseRequest_unknown {kind : BitVec 6} (unknown : knownKind kind = false) (payload : List Byte) :
    parseRequest kind payload = .unknownKind := by
  obtain ⟨n, below⟩ := kind
  interval_cases n
  any_goals rfl
  all_goals cases unknown

end Sys2Proof

namespace Sys2Proof.Claims

open Sys2Proof.Machine

/-- Settles O6: an unknown kind, a length that is not allowed, and a request. -/
theorem acceptanceChecks : Obligations.AcceptanceChecks := by
  intro kind payload short
  rw [← knownKind_iff]
  by_cases known : knownKind kind = true
  · by_cases allowed : lengthAllowed kind payload.length
    · obtain ⟨r, request⟩ := parseRequest_of_lengthAllowed short allowed
      simp [request, known, allowed]
    · simp [parseRequest_of_not_lengthAllowed ((knownKind_iff kind).1 known) allowed, known, allowed]
  · rw [Bool.not_eq_true] at known
    simp [parseRequest_unknown known payload, known]

end Sys2Proof.Claims
end

section
/-! The frame check and the frame receiver: a character in each of its states, and the characters of a request's
frame. -/

namespace Sys2Proof.Machine

/-! ## Characters (R160, R161) -/

theorem bitLevel_eq_high (bit : Bool) : (bitLevel bit == .high) = bit := by cases bit <;> rfl

/-- The eight data bits of a character read back as its value. -/
theorem ofBoolListLE_bitLevels (b : Byte) :
    BitVec.ofBoolListLE [bitLevel (b.getLsbD 0) == .high, bitLevel (b.getLsbD 1) == .high,
      bitLevel (b.getLsbD 2) == .high, bitLevel (b.getLsbD 3) == .high, bitLevel (b.getLsbD 4) == .high,
      bitLevel (b.getLsbD 5) == .high, bitLevel (b.getLsbD 6) == .high, bitLevel (b.getLsbD 7) == .high] = b := by
  refine BitVec.eq_of_getLsbD_eq fun i hi => ?_
  rw [BitVec.getLsbD_ofBoolListLE]
  change i < 8 at hi
  interval_cases i <;> exact bitLevel_eq_high _

/-! ## The frame check (R164) -/

theorem checkValue_snoc (covered : List Byte) (b : Byte) :
    checkValue (covered ++ [b]) = checkByte (checkValue covered) b := List.foldl_concat ..

/-- The register after each byte of the test value. -/
theorem checkValue_test : checkValue [0x31, 0x32, 0x33, 0x34, 0x35, 0x36, 0x37, 0x38, 0x39] = 0x29B1 := by
  have one : checkByte 0xFFFF 0x31 = 0xC782 := by decide
  have two : checkByte 0xC782 0x32 = 0x3DBA := by decide
  have three : checkByte 0x3DBA 0x33 = 0x5BCE := by decide
  have four : checkByte 0x5BCE 0x34 = 0x5349 := by decide
  have five : checkByte 0x5349 0x35 = 0x4560 := by decide
  have six : checkByte 0x4560 0x36 = 0x2EF4 := by decide
  have seven : checkByte 0x2EF4 0x37 = 0x7718 := by decide
  have eight : checkByte 0x7718 0x38 = 0xA12B := by decide
  have nine : checkByte 0xA12B 0x39 = 0x29B1 := by decide
  simp only [checkValue, List.foldl_cons, List.foldl_nil, one, two, three, four, five, six, seven, eight, nine]

/-- The low byte of a number, and the next. -/
theorem bytes16_eq (v : Half) : bytes16 v = [v.setWidth 8, (v >>> 8).setWidth 8] := by
  rw [BitVec.setWidth_eq_extractLsb' (by decide), BitVec.setWidth_eq_extractLsb' (by decide)]
  rfl

theorem kindClass_requestKindByte (kind : BitVec 6) : kindClass (requestKindByte kind) = 0 := by
  revert kind; decide

theorem kindBits_requestKindByte (kind : BitVec 6) : kindBits (requestKindByte kind) = kind := by
  revert kind; decide

/-! ## The receiver (R165) -/

theorem State.setReceiver_setReceiver (s : State) (r q : Receiver) : (s.setReceiver r).setReceiver q
    = s.setReceiver q := rfl

theorem State.setReceiver_of_rx {s : State} {r : Receiver} (at_r : s.link.rx = r) : s.setReceiver r = s := by
  rw [← at_r]; rfl

section
variable {s : State} {v : Byte}

theorem State.receiveGood_hunt (rx : s.link.rx = .hunt) :
    s.receiveGood v = if v = 0xC3 then s.setReceiver .len else s := by
  rw [State.receiveGood, rx]

theorem State.receiveGood_len (rx : s.link.rx = .len) :
    s.receiveGood v = if v.toNat ≤ 240 then s.setReceiver (.header v none) else s.discardFrame .lengthAbove240 := by
  rw [State.receiveGood, rx]
  rfl

theorem State.receiveGood_seq {n : Byte} (rx : s.link.rx = .header n none) :
    s.receiveGood v = s.setReceiver (.header n (some v)) := by
  rw [State.receiveGood, rx]

theorem State.receiveGood_kind {n seq : Byte} (rx : s.link.rx = .header n (some seq)) :
    s.receiveGood v = s.setReceiver (if n = 0 then .check seq v [] none else .body n seq v []) := by
  rw [State.receiveGood, rx]

theorem State.receiveGood_body {n seq kind : Byte} {payload : List Byte} (rx : s.link.rx = .body n seq kind payload) :
    s.receiveGood v
      = s.setReceiver (if n.toNat ≤ payload.length + 1 then .check seq kind (payload ++ [v]) none
        else .body n seq kind (payload ++ [v])) := by
  rw [State.receiveGood, rx]

theorem State.receiveGood_low {seq kind : Byte} {payload : List Byte} (rx : s.link.rx = .check seq kind payload none) :
    s.receiveGood v = s.setReceiver (.check seq kind payload (some v)) := by
  rw [State.receiveGood, rx]

theorem State.receiveGood_high {seq kind low : Byte} {payload : List Byte}
    (rx : s.link.rx = .check seq kind payload (some low)) :
    s.receiveGood v = s.evaluate seq kind payload (word16 low v) := by
  rw [State.receiveGood, rx]

end

theorem State.receive_good (s : State) (v : Byte) : s.receive v true = s.receiveGood v := rfl

/-- The last bytes of a payload take the receiver to the check value. -/
theorem State.receive_payload {n seq kind : Byte} (rest : List Byte) :
    ∀ {s : State} {payload : List Byte} (v : Byte), s.link.rx = .body n seq kind payload →
      n.toNat = payload.length + (v :: rest).length →
      (v :: rest).foldl (fun s b => s.receive b true) s
        = s.setReceiver (.check seq kind (payload ++ v :: rest) none) := by
  induction rest with
  | nil =>
    intro s payload v rx length
    have last : n.toNat ≤ payload.length + 1 := length.le
    rw [List.foldl_cons, State.receive_good, State.receiveGood_body rx, if_pos last]
    rfl
  | cons w rest ih =>
    intro s payload v rx length
    have more : ¬ n.toNat ≤ payload.length + 1 := by rw [List.length_cons, List.length_cons] at length; omega
    have left : n.toNat = (payload ++ [v]).length + (w :: rest).length := by
      rw [length, List.length_append, List.length_cons, List.length_singleton]; omega
    rw [List.foldl_cons, State.receive_good, State.receiveGood_body rx, if_neg more,
      ih w (State.setReceiver_rx ..) left, State.setReceiver_setReceiver, List.append_assoc, List.singleton_append]

/-- From HUNT, a frame's start byte, LEN, SEQ, KIND and payload take the receiver to its check value. -/
theorem State.receive_covered {s : State} (rx : s.link.rx = .hunt) (seq kind : Byte) {payload : List Byte}
    (short : payload.length ≤ 240) :
    (0xC3 :: BitVec.ofNat 8 payload.length :: seq :: kind :: payload).foldl (fun s b => s.receive b true) s
      = s.setReceiver (.check seq kind payload none) := by
  have len : (BitVec.ofNat 8 payload.length).toNat = payload.length := by
    rw [BitVec.toNat_ofNat]; omega
  have fits : (BitVec.ofNat 8 payload.length).toNat ≤ 240 := len.trans_le short
  simp only [List.foldl_cons, State.receive_good]
  rw [State.receiveGood_hunt rx, if_pos rfl, State.receiveGood_len (State.setReceiver_rx ..), if_pos fits,
    State.receiveGood_seq (State.setReceiver_rx ..), State.receiveGood_kind (State.setReceiver_rx ..)]
  simp only [State.setReceiver_setReceiver]
  cases payload with
  | nil => rfl
  | cons v rest =>
    have nonempty : BitVec.ofNat 8 (v :: rest).length ≠ 0 := fun zero => by
      rw [zero] at len; exact absurd len (by simp)
    rw [if_neg nonempty]
    exact State.receive_payload rest v (State.setReceiver_rx ..) (by rw [len]; simp)

/-- From HUNT, the characters of a request's frame are its arrival (R165, R168). -/
theorem State.receive_frame {s : State} (rx : s.link.rx = .hunt) (seq : Byte) {r : Request}
    (fits : r.wellFormed = true) :
    (frameBytes seq (requestKindByte r.kind) r.payload).foldl (fun s b => s.receive b true) s
      = s.arrive (requestFrame seq r.kind r.payload) (answerFrame (requestFrame seq r.kind r.payload)) := by
  have short : r.payload.length ≤ 240 := of_decide_eq_true fits
  rw [frameBytes, List.foldl_append, State.receive_covered rx seq _ short, bytes16, List.foldl_cons, List.foldl_cons,
    List.foldl_nil, State.receive_good, State.receive_good, State.receiveGood_low (State.setReceiver_rx ..),
    State.receiveGood_high (State.setReceiver_rx ..), word16_bytes, State.evaluate, if_neg (not_not.2 rfl),
    if_neg (not_not.2 (kindClass_requestKindByte _)), kindBits_requestKindByte]
  simp only [State.setReceiver_setReceiver, State.setReceiver_of_rx rx]
  rfl

end Sys2Proof.Machine

namespace Sys2Proof.Claims

open Sys2Proof.Machine

theorem charactersLaidOut : CharactersLaidOut := by
  have written (b : Byte) : characterLevels b
      = [.low, bitLevel (b.getLsbD 0), bitLevel (b.getLsbD 1), bitLevel (b.getLsbD 2), bitLevel (b.getLsbD 3),
        bitLevel (b.getLsbD 4), bitLevel (b.getLsbD 5), bitLevel (b.getLsbD 6), bitLevel (b.getLsbD 7), .high] := rfl
  refine ⟨written, fun b stop => ?_, fun f => ?_, fun s n => ⟨?_, fun f k b alive tx at_k bit => ?_⟩,
    rfl, rfl, rfl, rfl⟩
  · refine congrArg some (Prod.ext (ofBoolListLE_bitLevels b) ?_)
    cases stop <;> rfl
  · rfl
  · rintro (reset | idle)
    · exact if_pos reset
    · exact State.txd_of_idle idle n
  · exact State.txd_of_sending alive tx at_k bit

/-- Settles O5: a character's bits and TXD; then the characters of a frame, in the order of the receiver's states. -/
theorem charactersDeliverTheFrame : Obligations.CharactersDeliverTheFrame :=
  ⟨charactersLaidOut, fun seq _ _ fits rx => State.receive_frame rx seq fits⟩

/-- Settles O7: the bits of a byte, its place in a frame, the second check byte, and the test value. -/
theorem frameCheckSteps : Obligations.FrameCheckSteps := by
  refine ⟨rfl, fun covered b => ?_, fun reg bit => ?_, fun seq kind payload => ⟨rfl, ?_⟩,
    fun s seq kind low high payload rx => ?_, ?_⟩
  · rw [checkValue_snoc]
    rfl
  · rfl
  · rw [← bytes16_eq]
    rfl
  · exact State.receiveGood_high rx
  · exact checkValue_test

end Sys2Proof.Claims
end

section
/-! The arrivals of frames, the discards and the characters of the receiver, and the completions of replies, as their
statements give them. -/

namespace Sys2Proof.Machine

/-! ## A character in each state of the receiver (R165, R166) -/

theorem State.receive_bad (s : State) (v : Byte) :
    s.receive v false = if s.link.rx = .hunt then s else s.discardFrame .badStop := rfl

theorem Receiver.detects_badStop {r : Receiver} (out : r ≠ .hunt) : r.detects .badStop = true := by
  cases r with
  | hunt => exact absurd rfl out
  | _ => rfl

theorem Receiver.detects_cases {r : Receiver} {cause : DiscardCause} (detected : r.detects cause = true) :
    (cause = .badStop ∧ r ≠ .hunt) ∨ (cause = .lengthAbove240 ∧ r = .len)
      ∨ (∃ seq kind payload low, r = .check seq kind payload (some low)
        ∧ (cause = .crcDiffers
          ∨ (cause = .notARequest ∧ kindClass kind ≠ 0 ∧ low = (frameCheck seq kind payload).extractLsb' 0 8))) := by
  unfold Receiver.detects at detected
  split at detected
  · cases detected
  · next out => exact .inl ⟨rfl, out⟩
  · exact .inr (.inl ⟨rfl, rfl⟩)
  · exact .inr (.inr ⟨_, _, _, _, rfl, .inl rfl⟩)
  · rw [Bool.and_eq_true, bne_iff_ne, beq_iff_eq] at detected
    exact .inr (.inr ⟨_, _, _, _, rfl, .inr ⟨rfl, detected⟩⟩)
  · cases detected

/-- A check value that differs in its high byte. -/
theorem word16_ne_of_high {v : Half} {low high : Byte} (differs : high ≠ v.extractLsb' 8 8) : v ≠ word16 low high := by
  rintro rfl
  exact differs BitVec.extractLsb'_append_eq_left.symm

/-- Where a cause is detected, some character discards the frame for it. -/
theorem State.exists_receive_eq_discardFrame {s : State} {cause : DiscardCause}
    (detected : s.link.rx.detects cause = true) :
    ∃ value good, s.receive value good = s.discardFrame cause := by
  rcases Receiver.detects_cases detected with ⟨rfl, out⟩ | ⟨rfl, rx⟩ | ⟨seq, kind, payload, low, rx, cause⟩
  · exact ⟨0, false, if_neg out⟩
  · exact ⟨241, true, (State.receiveGood_len rx).trans (if_neg (by decide))⟩
  · rcases cause with rfl | ⟨rfl, other, rfl⟩
    · have differs : (frameCheck seq kind payload).extractLsb' 8 8 + 1
          ≠ (frameCheck seq kind payload).extractLsb' 8 8 := by
        bv_omega
      exact ⟨_, true, (State.receiveGood_high rx).trans (if_pos (word16_ne_of_high differs))⟩
    · refine ⟨(frameCheck seq kind payload).extractLsb' 8 8, true, (State.receiveGood_high rx).trans ?_⟩
      rw [word16_bytes, State.evaluate, if_neg (not_not.2 rfl), if_pos other]

/-- A commanded discard is its character's discard. -/
theorem exec_frameDiscard_eq_character {s : State} {cause : DiscardCause} {value : Byte} {good : Bool}
    (detected : s.link.rx.detects cause = true) (same : s.receive value good = s.discardFrame cause) :
    exec (.frameDiscard cause) s = exec (.characterReceived value good s.inputs) s := by
  change (if s.link.rx.detects cause = true then event (State.discardFrame cause) s else .next s)
    = .next (if s.power.inReset then s else (s.receive value good).transmit)
  rw [if_pos detected, same, event]

theorem exec_frameDiscard {s : State} {cause : DiscardCause} (alive : s.power.inReset = false)
    (detected : s.link.rx.detects cause = true) :
    exec (.frameDiscard cause) s = .next (s.discardFrame cause).transmit :=
  eventIf_next (·.link.rx.detects cause) (State.discardFrame cause) s alive detected

end Sys2Proof.Machine

namespace Sys2Proof.Claims

open Sys2Proof.Machine

/-- Settles O48: each cause where it is detected; then the character that has its effect. -/
theorem discardsAreCounted : Obligations.DiscardsAreCounted := by
  refine ⟨fun s alive => ⟨fun out => ⟨?_, ?_⟩, fun rx => ?_,
      fun seq kind low payload rx => ⟨?_, fun other agrees => ?_⟩⟩,
    fun cause s detected => ?_⟩
  · exact exec_frameDiscard alive (Receiver.detects_badStop out)
  · exact eventIf_next (·.link.rx != .hunt) (State.discardFrame .badStop) s alive (bne_iff_ne.2 out)
  · exact exec_frameDiscard alive (by rw [rx]; rfl)
  · exact exec_frameDiscard alive (by rw [rx]; rfl)
  · refine exec_frameDiscard alive ?_
    rw [rx, agrees, BitVec.setWidth_eq_extractLsb' (by decide)]
    simpa [Receiver.detects, kindClass] using other
  · obtain ⟨value, good, same⟩ := State.exists_receive_eq_discardFrame detected
    exact ⟨value, good, exec_frameDiscard_eq_character detected same⟩

/-- Settles O49: a bad stop bit, then a good character in each state of the receiver. -/
theorem charactersAdvanceTheReceiver : Obligations.CharactersAdvanceTheReceiver := by
  intro v good pins s alive
  dsimp only
  refine (event_next (fun s => { s with inputs := pins }.receive v good) s alive).trans (congrArg _ ?_)
  cases good with
  | false => rw [State.receive_bad]; rfl
  | true =>
    rw [State.receive_good, if_neg (by simp)]
    cases rx : s.link.rx with
    | hunt => exact congrArg State.transmit (State.receiveGood_hunt (s := s.present pins) rx)
    | len => exact congrArg State.transmit (State.receiveGood_len (s := s.present pins) rx)
    | header n seq =>
      cases seq with
      | none => exact congrArg State.transmit (State.receiveGood_seq (s := s.present pins) rx)
      | some seq => exact congrArg State.transmit (State.receiveGood_kind (s := s.present pins) rx)
    | body n seq kind payload => exact congrArg State.transmit (State.receiveGood_body (s := s.present pins) rx)
    | check seq kind payload low =>
      cases low with
      | none => exact congrArg State.transmit (State.receiveGood_low (s := s.present pins) rx)
      | some low => exact congrArg State.transmit (State.receiveGood_high (s := s.present pins) rx)

end Sys2Proof.Claims
end

section
/-! Frames that arrive: lost, stored, taken, or answered from the record; and the completions of replies. -/

namespace Sys2Proof.Machine

open Sys2Proof.Claims

/-! ## A request's frame (R168 to R170) -/

theorem answerFrame_request {f : RequestFrame} {r : Request} (read : parseRequest f.kind f.payload = .request r)
    (s : State) : answerFrame f s = runRequest f.seq f.check r s := by
  rw [answerFrame, read]

/-- Every request's command is the arrival of its frame. -/
theorem exec_command_arrive (seq : Byte) (pins : Half) {r : Request} (fits : r.wellFormed = true) {s : State}
    (alive : s.power.inReset = false) :
    ∃ answer, exec (command seq pins r) s = .next (s.arrive (frameOf seq r) answer).transmit := by
  have submitted (answer : Half → State → Answer) :
      ∃ a, submit seq r answer s = .next (s.arrive (frameOf seq r) a).transmit :=
    ⟨answer (frameOf seq r).check, (if_pos fits).trans (event_next _ s alive)⟩
  by_cases lines : r = .readLines
  · subst lines
    exact submitted fun _ s => readLinesRequest (s.present pins)
  · rw [exec_command seq pins r lines]
    exact submitted _

theorem Link.repeatOf_self {l : Link} {seq : Byte} {check : Half} {record : RecordState}
    (taken : l.lastTaken = some { seq := seq, check := check, state := record }) :
    l.repeatOf seq check = some record := by
  rw [Link.repeatOf, taken]
  exact if_pos ⟨rfl, rfl⟩

/-- A request that repeats the record is answered from it at its arrival (R171). -/
theorem exec_command_repeat (seq : Byte) (pins : Half) {r : Request} (fits : r.wellFormed = true) {s : State}
    (alive : s.power.inReset = false) (waits : s.link.waiting = none) (free : s.link.replySlot = none)
    {record : RecordState}
    (taken : s.link.lastTaken = some { seq := seq, check := (frameOf seq r).check, state := record }) :
    exec (command seq pins r) s
      = .next { s with link := s.link.answerRepeat seq r.kind record }.transmit := by
  obtain ⟨answer, arrives⟩ := exec_command_arrive seq pins fits alive
  rw [arrives, State.arrive_free _ _ waits free, State.take_repeat (f := frameOf seq r) _ (Link.repeatOf_self taken)]
  rfl

/-- A frame that is taken and answered: the owner's state, the reply placed, the record replaced, and an IDLE
transmitter beginning the reply. -/
theorem State.take_answered {s t : State} {f : RequestFrame} {answer : State → Answer} {reply : Reply}
    (new : s.link.repeatOf f.seq f.check = none) (answers : answer s = (t, some reply)) :
    (s.take f answer).transmit = { t with link := { t.link with
      replySlot := some { seq := f.seq, kind := f.kind, reply := reply }
      lastTaken := some { seq := f.seq, check := f.check, state := .completed reply }
      tx := if t.link.tx = .idle then .sending (.reply { seq := f.seq, kind := f.kind, reply := reply })
        else t.link.tx } } := by
  rw [State.take_new _ new, answers]
  exact State.transmit_reply rfl

/-- A request that is new at its arrival is its frame's taking; READ_LINES presents levels with it (log entry 4). -/
theorem exec_command_take (seq : Byte) (pins : Half) {r : Request} (fits : r.wellFormed = true) {s : State}
    (takes : Takes s seq r) :
    exec (command seq pins r) s
      = .next (({ s with inputs := if r = Request.readLines then pins else s.inputs }.take (frameOf seq r)
          (answerFrame (frameOf seq r))).transmit) := by
  obtain ⟨alive, waits, free, new⟩ := takes
  have answers (t : State) : answerFrame (frameOf seq r) t = runRequest seq (frameOf seq r).check r t :=
    answerFrame_request (parseRequest_payload fits) t
  have taken (answer : Half → State → Answer) :
      submit seq r answer s = .next (s.take (frameOf seq r) (answer (frameOf seq r).check)).transmit := by
    rw [submit, if_pos fits]
    dsimp only
    rw [event_next _ s alive, State.arrive_free _ _ waits free]
  by_cases lines : r = .readLines
  · subst lines
    rw [if_pos rfl]
    refine (taken fun _ s => readLinesRequest (s.present pins)).trans ?_
    rw [State.take_new _ new, State.take_new (s := { s with inputs := pins }) _ new, answers]
    rfl
  · rw [if_neg lines, exec_command seq pins r lines, taken]
    exact congrArg (fun a => Host.Outcome.next (s.take (frameOf seq r) a).transmit) (funext fun t => (answers t).symm)

/-! ## AWAIT (R184 to R186) -/

/-- A frame that is taken and becomes the deferred request (R173). -/
theorem State.take_deferred {s t : State} {f : RequestFrame} {answer : State → Answer}
    (new : s.link.repeatOf f.seq f.check = none) (answers : answer s = (t, none)) :
    s.take f answer
      = { t with link := { t.link with
          lastTaken := some { seq := f.seq, check := f.check, state := .deferred } } } := by
  rw [State.take_new _ new, answers]
  rfl

section
variable {seq condition : Byte} {check timeout : Half} {argument : Stamp} {s : State}

theorem awaitRequest_unread (unread : readCondition condition argument s.timebase.time = none) :
    awaitRequest seq check condition argument timeout s = refuse .badField s := by
  rw [awaitRequest, unread]

theorem awaitRequest_read {c : AwaitCondition} (read : readCondition condition argument s.timebase.time = some c) :
    awaitRequest seq check condition argument timeout s
      = if timeout.toNat = 0 ∨ 60000 < timeout.toNat then refuse .badField s
        else if s.link.deferred.isSome then refuse .busy s
        else if c.holds s then (s, some (c.reply .ok s))
        else (s.defer seq check c timeout.toNat, none) := by
  rw [awaitRequest, read]
  simp only [Nat.lt_one_iff]

end

/-- The events that test a condition (R186). -/
theorem testedAt_iff (c : AwaitCondition) (ev : AwaitEvent) : c.testedAt ev = true ↔ testedBy c ev := by
  constructor
  · intro tested
    cases ev with
    | removal j =>
      cases c with
      | agendaEmpty line =>
        cases line with
        | none => exact .inl rfl
        | some i => exact .inr (by rw [eq_of_beq tested])
      | _ => cases tested
    | append =>
      cases c with
      | unreadAtLeast n => exact ⟨n, rfl⟩
      | agendaEmpty line => cases line <;> cases tested
      | _ => cases tested
    | holdCleared =>
      cases c with
      | holdClear => exact rfl
      | agendaEmpty line => cases line <;> cases tested
      | _ => cases tested
    | _ =>
      cases c with
      | timeReached x => exact ⟨x, rfl⟩
      | agendaEmpty line => cases line <;> cases tested
      | _ => cases tested
  · intro tested
    cases ev with
    | removal line =>
      rcases tested with rfl | rfl
      · rfl
      · exact beq_self_eq_true line
    | append => obtain ⟨n, rfl⟩ := tested; rfl
    | tick => obtain ⟨x, rfl⟩ := tested; rfl
    | startZero => obtain ⟨x, rfl⟩ := tested; rfl
    | holdCleared => obtain rfl : c = .holdClear := tested; rfl

/-! ## Completions of replies (R172 to R175) -/

/-- A choice after a reply's end changes nothing but the transmitter, so the reply slot stays empty and the frame that
waits is the one that waited. -/
theorem State.transmit_slots (s : State) :
    s.transmit.link.replySlot = s.link.replySlot ∧ s.transmit.link.waiting = s.link.waiting := by
  rw [State.transmit_link]
  exact ⟨rfl, rfl⟩

theorem State.takeWaiting_none {s : State} (empty : s.link.waiting = none) : s.takeWaiting = s := by
  rw [State.takeWaiting, empty]

theorem State.takeWaiting_some {s : State} {f : RequestFrame} (waits : s.link.waiting = some f)
    (free : s.link.replySlot = none) :
    s.takeWaiting = { s with link := { s.link with waiting := none } }.take f (answerFrame f) := by
  rw [State.takeWaiting, waits]
  exact if_neg (by simp [free])

/-- The record at a deferred reply's end, as the statement writes it (R171). -/
theorem Link.finishDeferred_eq {l : Link} {d : Deferred} (deferred : l.deferred = some d) (f : ReplyFrame) :
    l.finishDeferred f = { l with
      tx := .idle, deferredSlot := none, deferred := none
      lastTaken := match l.lastTaken with
        | some r => some (if r.seq = d.seq ∧ r.check = d.check ∧ r.state = RecordState.deferred then
            { r with state := .completed f.reply } else r)
        | none => none } := by
  rw [Link.finishDeferred, deferred]
  cases l.lastTaken <;> rfl

end Sys2Proof.Machine

namespace Sys2Proof.Claims

open Sys2Proof.Machine

/-- Settles O3: lost, stored, answered from the cache, and discarded. -/
theorem arrivalsThatAreNotTaken : Obligations.ArrivalsThatAreNotTaken := by
  intro seq pins r s fits alive
  obtain ⟨answer, arrives⟩ := exec_command_arrive seq pins fits alive
  refine ⟨fun waits => ?_, fun empty occupied => ?_, fun empty free cached taken => ?_, fun empty free taken => ?_⟩
  · rw [arrives, State.arrive_waiting _ _ waits]
    rfl
  · rw [arrives, State.arrive_occupied _ _ empty occupied]
  · rw [exec_command_repeat seq pins fits alive empty free taken, State.transmit_reply rfl]
    refine congrArg Host.Outcome.next ?_
    rw [answered, ← taken]
    rfl
  · exact exec_command_repeat seq pins fits alive empty free taken

/-- Settles O47: an unknown kind answered; a repeat by what the record holds; an overrun. -/
theorem otherArrivals : Obligations.OtherArrivals := by
  refine ⟨fun seq kind payload s unknown short alive empty free new => ?_, fun s alive =>
    ⟨fun kind r taken free empty => ?_, fun waits => ?_⟩⟩
  · rw [← knownKind_iff] at unknown
    have sent : ¬ (knownKind kind || decide (Config.payloadLimit < payload.length)) = true := by
      simp [unknown, Config.payloadLimit, Nat.not_lt.2 short]
    refine ((if_neg sent).trans (event_next _ s alive)).trans (congrArg _ ?_)
    rw [State.arrive_free _ _ empty free]
    exact State.take_answered (f := requestFrame seq kind payload) new rfl
  · have occurs : s.link.takesRepeat = true := by simp [Link.takesRepeat, taken, free, empty]
    refine (eventIf_next (·.link.takesRepeat) (State.takeRepeat kind) s alive occurs).trans ?_
    rw [State.takeRepeat, taken]
    dsimp only
    cases r.state with
    | completed cached => rfl
    | deferred => rfl
  · exact eventIf_next (·.link.waiting.isSome) State.countOverrun s alive waits

/-- Settles O50: a request's taking; the link's own refusals; then the completions of the two kinds of reply. -/
theorem repliesComplete : Obligations.RepliesComplete := by
  refine ⟨fun seq pins r s fits takes => exec_command_take seq pins fits takes,
    fun f s => ⟨fun read => ?_, fun read => ?_⟩, fun pins s f alive => ⟨fun tx stays => ?_, fun d tx deferred => ?_⟩⟩
  · rw [answerFrame, read]; rfl
  · rw [answerFrame, read]; rfl
  · have occurs : s.link.tx.replySent.isSome = true := by rw [tx]; rfl
    have plain : ¬ (!s.power.inReset && s.link.restartPending && s.link.tx.replySent.isSome) = true := by simp [stays]
    refine ((if_neg plain).trans (eventIf_next (·.link.tx.replySent.isSome) (fun s => (s.present pins).replySent) s
      alive occurs)).trans (congrArg _ ?_)
    dsimp only
    generalize ended : ({ s with inputs := pins, link := { s.link with replySlot := none, tx := .idle } } : State) = t
    have sent : (s.present pins).replySent = t.transmit.takeWaiting := by rw [← ended]; rfl
    obtain ⟨free, waiting⟩ := t.transmit_slots
    have free' : t.transmit.link.replySlot = none := by rw [free, ← ended]
    have waiting' : t.transmit.link.waiting = s.link.waiting := by rw [waiting, ← ended]
    rw [sent]
    cases waits : s.link.waiting with
    | none => rw [State.takeWaiting_none (waiting'.trans waits), State.transmit_transmit]
    | some w => rw [State.takeWaiting_some (waiting'.trans waits) free']
  · have occurs : s.link.tx.deferredSent.isSome = true := by rw [tx]; rfl
    refine (eventIf_next (·.link.tx.deferredSent.isSome) State.deferredSent s alive occurs).trans ?_
    rw [State.deferredSent, tx]
    exact congrArg (fun l => Host.Outcome.next ({ s with link := l } : State).transmit)
      (Link.finishDeferred_eq deferred f)

/-- Settles O13: the checks in their order, the answer at once and the deferral; then the test at an event. -/
theorem awaitAnswersOrDefers : Obligations.AwaitAnswersOrDefers := by
  refine ⟨fun seq condition argument timeout s takes => ?_, fun s ev => ⟨fun d deferred runs tested holds => ?_,
    fun still => ?_⟩⟩
  · have respond {t : State} {reply : Reply}
        (h : awaitRequest seq (frameOf seq (.await condition argument timeout)).check condition argument timeout s
          = (t, some reply)) :
        exec (.await seq condition argument timeout) s
          = .next (answered t seq (.await condition argument timeout) reply) :=
      exec_answered (r := .await condition argument timeout) 0 (by simp) rfl takes h
    dsimp only
    split
    · next unread => exact respond (awaitRequest_unread unread)
    next c read =>
    split
    · next out => exact respond ((awaitRequest_read read).trans (if_pos out))
    next within =>
    split
    · next busy => exact respond ((awaitRequest_read read).trans ((if_neg within).trans (if_pos busy)))
    next single =>
    split
    · next now =>
      exact respond ((awaitRequest_read read).trans ((if_neg within).trans ((if_neg single).trans (if_pos now))))
    next later =>
    obtain ⟨alive, empty, free, new⟩ := takes
    refine (event_next (State.arrive (frameOf seq (.await condition argument timeout)) _) s alive).trans ?_
    rw [State.arrive_free _ _ empty free, State.take_deferred (t := s.defer seq _ c timeout.toNat) new
      ((awaitRequest_read read).trans ((if_neg within).trans ((if_neg single).trans (if_neg later))))]
    rfl
  · have awaiting : s.link.awaiting = some d :=
      Option.filter_eq_some_iff.2 ⟨deferred, Option.isSome_iff_ne_none.2 runs⟩
    rw [State.awaitTest, awaiting]
    exact if_pos (by rw [(testedAt_iff _ _).2 tested, holds]; rfl)
  · rcases s.awaitTest_cases ev with same | ⟨d, awaiting, tested, holds, -⟩
    · exact same
    · obtain ⟨deferred, runs⟩ := Option.filter_eq_some_iff.1 awaiting
      rcases still d deferred with stopped | untested | fails
      · rw [stopped] at runs; cases runs
      · exact absurd ((testedAt_iff _ _).1 tested) untested
      · rw [fails] at holds; cases holds

end Sys2Proof.Claims
end

section
/-! The codes of the fields, and the layouts of requests, records, replies and notices, as their statement gives
them. -/

namespace Sys2Proof.Machine

open Sys2Proof.Claims

/-! ## Fields as bytes (R195) -/

@[simp] theorem layout_nil : layout [] = [] := rfl

@[simp] theorem layout_cons (f : Nat × Nat) (fields : List (Nat × Nat)) :
    layout (f :: fields) = little f.1 f.2 ++ layout fields := rfl

@[simp] theorem layout_append (a b : List (Nat × Nat)) : layout (a ++ b) = layout a ++ layout b := List.flatMap_append

@[simp] theorem layout_flatMap {α : Type} (l : List α) (f : α → List (Nat × Nat)) :
    layout (l.flatMap f) = l.flatMap fun x => layout (f x) := List.flatMap_assoc

theorem layout_length (fields : List (Nat × Nat)) : (layout fields).length = (fields.map (·.2)).sum := by
  simp [layout, little, List.length_flatMap]

/-- Byte `k` of a number. -/
theorem ofNat_div_eq_extractLsb' {w : Nat} (v : BitVec w) (k : Nat) :
    BitVec.ofNat 8 (v.toNat / 256 ^ k) = v.extractLsb' (8 * k) 8 := by
  apply BitVec.eq_of_toNat_eq
  rw [BitVec.toNat_ofNat, BitVec.extractLsb'_toNat, Nat.shiftRight_eq_div_pow, Nat.pow_mul]

theorem little_toNat {w : Nat} (v : BitVec w) (size : Nat) :
    little v.toNat size = (List.range size).map fun k => v.extractLsb' (8 * k) 8 :=
  List.map_congr_left fun k _ => ofNat_div_eq_extractLsb' v k

/-- A number's lower bytes are those of its value in a field of that size. -/
theorem little_ofNat (n size : Nat) : little (BitVec.ofNat (8 * size) n).toNat size = little n size := by
  refine List.map_congr_left fun k below => BitVec.eq_of_toNat_eq ?_
  have split : 2 ^ (8 * size) = 256 ^ k * (256 * 256 ^ (size - k - 1)) := by
    rw [← pow_succ', ← pow_add, Nat.pow_mul]
    congr 1
    have := List.mem_range.1 below
    omega
  rw [BitVec.toNat_ofNat, BitVec.toNat_ofNat, BitVec.toNat_ofNat, split, Nat.mod_mul_right_div_self]
  exact Nat.mod_mul_right_mod _ _ _

@[simp] theorem little_one (n : Nat) : little n 1 = [BitVec.ofNat 8 n] := by simp [little, List.range_succ]

@[simp] theorem little_two (n : Nat) : little n 2 = natBytes16 n :=
  (little_ofNat n 2).symm.trans (little_toNat _ 2)

@[simp] theorem little_four (n : Nat) : little n 4 = natBytes32 n :=
  (little_ofNat n 4).symm.trans (little_toNat _ 4)

@[simp] theorem natBytes16_toNat (v : BitVec 16) : natBytes16 v.toNat = bytes16 v := by
  rw [natBytes16, BitVec.ofNat_toNat, BitVec.setWidth_eq]

@[simp] theorem natBytes32_toNat (v : BitVec 32) : natBytes32 v.toNat = bytes32 v := by
  rw [natBytes32, BitVec.ofNat_toNat, BitVec.setWidth_eq]

@[simp] theorem little_span (v : Span) : little v.toNat 3 = bytes24 v := little_toNat v 3

@[simp] theorem little_stamp (v : Stamp) : little v.toNat 6 = bytes48 v := little_toNat v 6

@[simp] theorem layout_map_byte {α : Type} (l : List α) (f : α → Byte) :
    layout (l.map fun x => ((f x).toNat, 1)) = l.map f := by
  induction l with
  | nil => rfl
  | cons x l ih => simp [ih]

theorem widthOf_eq (a : Action) : widthOf a = a.widthField.toNat := by
  cases a <;> rfl

theorem ofNat_lineCode (i : LineId) : BitVec.ofNat 8 i.val = lineCode i := rfl

/-! ## Codes (R195) -/

theorem lineCode_toNat (i : LineId) : (lineCode i).toNat = i.val := by revert i; decide

theorem ruleCode_toNat (k : RuleId) : (ruleCode k).toNat = k.val := by revert k; decide

theorem readRuleId_eq_some {b : Byte} {k : RuleId} : readRuleId b = some k ↔ b.toNat = k.val := by
  unfold readRuleId
  split
  · rw [Option.some.injEq, Fin.ext_iff]
  · next above => exact iff_of_false (by simp) fun same => above (same ▸ k.isLt)

theorem readFlag_eq_some {b : Byte} {x : Bool} : readFlag b = some x ↔ b = flagCode x := by
  constructor
  · intro read
    rcases readFlag_cases read with ⟨rfl, rfl⟩ | ⟨rfl, rfl⟩ <;> rfl
  · rintro rfl
    cases x <;> rfl

/-- An action that is read carries its code, and a pulse a width (R195). -/
theorem readAction_eq_some {b : Byte} {w : Span} {x : Action} :
    readAction b w = some x ↔ b = x.code ∧ ∀ l v, x = .pulse l v → v = w ∧ w ≠ 0 := by
  constructor
  · intro read
    refine ⟨(readAction_code read).1.symm, ?_⟩
    rintro l v rfl
    unfold readAction at read
    split at read
    · cases read
    · cases read
    · cases read
    · split at read
      · cases read
      · next wide => cases read; exact ⟨rfl, wide⟩
    · split at read
      · cases read
      · next wide => cases read; exact ⟨rfl, wide⟩
    · cases read
  · rintro ⟨rfl, wide⟩
    cases x with
    | single a => cases a <;> rfl
    | pulse l v =>
      obtain ⟨rfl, positive⟩ := wide l v rfl
      cases l <;> exact if_neg positive

theorem origin_follow_code (k : RuleId) : (Origin.follow k).code.toNat = 0x10 + k.val := by revert k; decide

/-! ## Records (R198 to R201) -/

/-- The fired set's bits, from a byte begun (R198). -/
theorem getLsbD_firedByte (fired : List RuleId) (k : RuleId) : (firedByte fired).getLsbD k.val = true ↔ k ∈ fired := by
  have bit : ∀ j k : RuleId, ((1 : Byte) <<< j.val).getLsbD k.val = decide (k = j) := by decide
  have begun (fired : List RuleId) (b : Byte) :
      (fired.foldl (fun (b : Byte) (k : RuleId) => b ||| ((1 : Byte) <<< k.val)) b).getLsbD k.val = true
        ↔ b.getLsbD k.val = true ∨ k ∈ fired := by
    induction fired generalizing b with
    | nil => simp
    | cons j fired ih => rw [List.foldl_cons, ih, BitVec.getLsbD_or, bit]; simp [or_assoc]
  exact (begun fired 0).trans (by simp)

theorem QueueEntry.capture_bytes (q : Half) (line : LineId) (polarity : Edge) (stamp : Stamp) (fired : List RuleId) :
    (QueueEntry.capture q line polarity stamp fired).bytes
      = layout [(0, 1), (q.toNat, 2), (line.val, 1), (polarity.code.toNat, 1), ((firedByte fired).toNat, 1),
        (stamp.toNat, 6)] := by
  simp [QueueEntry.bytes, ofNat_lineCode]

theorem QueueEntry.gap_bytes (q : Half) (lost : Nat) (first : Stamp) :
    (QueueEntry.gap q lost first).bytes = layout [(1, 1), (q.toNat, 2), (lost, 4), (first.toNat, 6)] := by
  simp [QueueEntry.bytes]

theorem AgendaEntry.bytes_eq (e : AgendaEntry) :
    e.bytes = layout [(e.tag.toNat, 2), (e.line.val, 1), (e.due.toNat, 6), (e.action.code.toNat, 1),
      (widthOf e.action, 3), (e.phase.code.toNat, 1), (e.origin.code.toNat, 1), ((flagCode e.report).toNat, 1)] := by
  simp [AgendaEntry.bytes, ofNat_lineCode, widthOf_eq]

theorem LineMode.bytes_length (m : LineMode) : m.bytes.length = 4 := by cases m <;> rfl

/-- The fields of a rule record's settings (R200). -/
def settingsFields : Option FollowSettings → List (Nat × Nat)
  | some f => [(f.source.val, 1), (f.polarity.code.toNat, 1), (f.target.val, 1), (f.action.code.toNat, 1),
      (widthOf f.action, 3), (f.delay.toNat, 3), (f.shots, 2), (f.retrigger.code.toNat, 1), (f.late.code.toNat, 1),
      ((flagCode f.report).toNat, 1)]
  | none => [(0, 15)]

/-- The fields of a rule record's entry (R200). -/
def entryFields : Option (Phase × Stamp) → List (Nat × Nat)
  | some (phase, due) => [(phase.code.toNat, 1), (due.toNat, 6)]
  | none => [(0xFF, 1), (0, 6)]

theorem layout_settingsFields (settings : Option FollowSettings) :
    layout (settingsFields settings) = settingsBytes settings := by
  cases settings with
  | none => rfl
  | some f => simp [settingsFields, settingsBytes, ofNat_lineCode, widthOf_eq]

theorem layout_entryFields (entry : Option (Phase × Stamp)) : layout (entryFields entry) = followEntryBytes entry := by
  cases entry with
  | none => rfl
  | some e => simp [entryFields, followEntryBytes]

theorem RuleRecord.bytes_eq (r : RuleRecord) :
    r.bytes = layout ([(r.id.val, 1), (r.state.code.toNat, 1)] ++ settingsFields r.settings
      ++ [(r.shotsRemaining, 2), (r.fires, 4), (r.misses, 4)] ++ entryFields r.entry) := by
  simp [RuleRecord.bytes, ruleCode, layout_settingsFields, layout_entryFields]

theorem settingsBytes_length (settings : Option FollowSettings) : (settingsBytes settings).length = 15 := by
  cases settings <;> rfl

theorem followEntryBytes_length (entry : Option (Phase × Stamp)) : (followEntryBytes entry).length = 7 := by
  cases entry <;> rfl

theorem RuleRecord.bytes_length (r : RuleRecord) : r.bytes.length = 34 := by
  simp [RuleRecord.bytes, settingsBytes_length, followEntryBytes_length, natBytes16, natBytes32, bytes16, bytes32]

theorem Snapshot.bytes_length (s : Snapshot) : s.bytes.length = 50 + s.rules.length := by
  simp [Snapshot.bytes, stagedBytes, LinkCounters.bytes, natBytes16, natBytes32, bytes16, bytes32, bytes48]
  omega

/-! ## Frames (R163, R172, R176) -/

theorem replyKind_eq (kind : BitVec 6) : 1#2 ++ kind = 0x40 + kind.setWidth 8 := by revert kind; decide

theorem noticeKind_eq (code : BitVec 6) : 2#2 ++ code = 0x80 + code.setWidth 8 := by revert code; decide

theorem noticeTable_code (b : NoticeBody) : (noticeTable b).1 = b.code := by cases b <;> rfl

theorem noticeTable_body (b : NoticeBody) : layout (noticeTable b).2.1 = b.bytes := by
  cases b <;> simp [noticeTable, NoticeBody.bytes, ofNat_lineCode, ruleCode, natByte]

theorem noticeTable_length (b : NoticeBody) : (noticeTable b).2.2 = 8 + b.bytes.length := by
  cases b <;> rfl

end Sys2Proof.Machine

namespace Sys2Proof.Claims

open Sys2Proof.Machine

theorem codesAsListed : CodesAsListed := by
  refine ⟨lineCode_toNat, fun b i => readLine_eq_some.trans eq_comm, ruleCode_toNat, fun b k => readRuleId_eq_some,
    ⟨rfl, rfl, fun b x => readFlag_eq_some⟩,
    ⟨rfl, rfl, fun _ => rfl, rfl, fun b x => readLevel_eq_some.trans eq_comm⟩,
    ⟨rfl, rfl, rfl, fun b x => readCapturePolarity_eq_some.trans eq_comm⟩,
    ⟨rfl, rfl, rfl, fun b x => readFollowPolarity_eq_some.trans eq_comm⟩,
    ⟨rfl, rfl⟩,
    ⟨rfl, rfl, rfl, fun b x => readHoldAction_eq_some.trans eq_comm⟩,
    ⟨rfl, rfl, rfl, fun b x => readLevelAction_eq_some.trans eq_comm⟩,
    ⟨fun _ => rfl, rfl, fun b x => readBoundaryAction_eq_some.trans eq_comm⟩,
    ⟨fun _ => rfl, fun _ => rfl, fun _ => rfl, fun b w x => readAction_eq_some⟩,
    ⟨rfl, rfl, fun _ => rfl, rfl⟩,
    ⟨rfl, rfl, rfl, fun _ => rfl, rfl⟩,
    ⟨rfl, rfl, fun b x => readFollowLate_eq_some.trans eq_comm⟩,
    ⟨rfl, rfl, fun b x => readRetrigger_eq_some.trans eq_comm⟩,
    ⟨rfl, origin_follow_code⟩,
    ⟨rfl, rfl, rfl⟩,
    fun pin link => HoldReasons.code_toNat ⟨pin, link⟩,
    ⟨rfl, rfl, rfl, rfl⟩, ⟨rfl, rfl, rfl, rfl⟩, ⟨rfl, rfl, rfl⟩, ⟨rfl, rfl⟩, ?_⟩
  exact ⟨rfl, rfl, rfl, rfl, rfl, rfl, rfl, rfl, rfl, rfl, rfl, rfl, rfl, rfl, rfl, rfl, rfl, rfl, rfl, rfl⟩

theorem requestsLaidOut : RequestsLaidOut := by
  refine ⟨fun o => by simp [RawOrder.bytes], fun f => by simp [RawFollow.bytes], fun r => ?_⟩
  cases r with
  | writeSlot line slot boundary edges =>
    have edge : RawEdge.bytes = fun e => bytes16 e.offset ++ [e.action] := rfl
    exact ⟨rfl, by simp [Request.payload, edge]⟩
  | schedule orders => exact ⟨rfl, rfl⟩
  | _ => exact ⟨rfl, by simp [Request.payload]⟩

theorem recordsLaidOut : RecordsLaidOut := by
  refine ⟨fun q line polarity stamp fired => ⟨firedByte fired, getLsbD_firedByte fired,
      QueueEntry.capture_bytes q line polarity stamp fired⟩,
    QueueEntry.gap_bytes, AgendaEntry.bytes_eq, fun l => ⟨?_, ?_⟩,
    fun r => ?_, fun s => ?_, fun e => ?_, fun e => ?_, fun l => ?_, RuleRecord.bytes_length, fun s => ?_⟩
  · rw [LineRecord.bytes, List.drop_left' (LineMode.bytes_length _)]
    simp
  · cases mode : l.mode with
    | off => simp [LineRecord.bytes, mode, LineMode.bytes, natBytes16, bytes16]
    | capture polarity filter => simp [LineRecord.bytes, mode, LineMode.bytes, natBytes16, bytes16]
    | drive idle h => simp [LineRecord.bytes, mode, LineMode.bytes]
  · exact r.bytes_eq
  · simp [Snapshot.bytes, stagedBytes, natByte, LinkCounters.bytes]
  · cases e with
    | capture => rfl
    | gap => rfl
  · rw [AgendaEntry.bytes_eq, layout_length]
    rfl
  · rw [LineRecord.bytes, List.length_append, LineMode.bytes_length]
    rfl
  · rw [Snapshot.bytes_length]
    rfl

theorem repliesLaidOut : RepliesLaidOut := by
  refine ⟨fun f => ⟨⟨replyKind_eq f.kind, rfl, rfl⟩, rfl, rfl, rfl⟩, fun d => ?_⟩
  cases d with
  | identity => rfl
  | acknowledged removed held head newest =>
    cases newest with
    | none => simp [ReplyData.bytes, newestSentBytes, natByte, natBytes16]
    | some n => simp [ReplyData.bytes, newestSentBytes, natByte]
  | pattern active takeover stored => simp [ReplyData.bytes, Pattern.bytes]
  | codeOnly => rfl
  | status => rfl
  | lines => rfl
  | rule => rfl
  | _ => simp [ReplyData.bytes, stagedBytes, natByte]

theorem noticesLaidOut : NoticesLaidOut := by
  intro c
  have payload : (TxFrame.firstSending c).payload
      = layout ([(c.nseq.toNat, 2), (c.stamp.toNat, 6)] ++ (noticeTable c.body).2.1) := by
    rw [layout_append, noticeTable_body]
    simp [TxFrame.payload, NoticeContent.bytes]
  refine ⟨?_, (BitVec.setWidth_eq_extractLsb' (by decide)).symm, payload, ?_, rfl⟩
  · rw [noticeTable_code]
    exact noticeKind_eq c.body.code
  · rw [payload, layout_append, noticeTable_body, List.length_append, noticeTable_length]
    rfl

/-- Settles O8: the codes, the requests, the records, the replies, the notices, and the frame around each. -/
theorem recordLayouts : Obligations.RecordLayouts := by
  refine ⟨codesAsListed, requestsLaidOut, recordsLaidOut, repliesLaidOut, noticesLaidOut, fun f => ?_⟩
  simp [TxFrame.bytes, frameBytes]

end Sys2Proof.Claims
end

section
/-! The device requests of chapter 10 other than AWAIT, and RESTART taking effect, as their statements give them. -/

namespace Sys2Proof.Machine

open Sys2Proof.Claims

section
variable {clear : Byte} {s : State}

/-- STATUS with a flag that is neither OFF nor ON (R182). -/
theorem statusRequest_badField (other : ¬ (clear = 0 ∨ clear = 1)) : statusRequest clear s = refuse .badField s := by
  rw [statusRequest, readFlag_eq_none.2 (not_or.1 other)]

/-- STATUS with its flag OFF or ON: the snapshot is of the state before the counters are cleared (R182, R183). -/
theorem statusRequest_flag (flag : clear = 0 ∨ clear = 1) :
    statusRequest clear s = accept (.status s.snapshot) (if clear = 1 then s.clearCounters else s) := by
  rw [statusRequest, readFlag_of_range flag]
  simp only [beq_iff_eq]

end

/-- A reply ends with a RESTART pending: the RESTART takes effect (R190, R192). -/
theorem execReplyComplete_restart {s : State} {f : ReplyFrame} (pins : Half) (alive : s.power.inReset = false)
    (restarts : s.link.restartPending = true) (sends : s.link.tx = .sending (.reply f)) :
    execReplyComplete pins s = .next ({ s with inputs := pins } : State).restartEffect :=
  if_pos (by rw [alive, restarts, sends]; rfl)

/-- RESTART's effect: every block's reset value, the rate kept, and HOLD found as the last sample found it (R192, R21). -/
theorem restartEffect_eq_afterReset (s : State) :
    s.restartEffect = afterReset s .restartRequest s.link.rate s.timebase.reasons.pin :=
  firstSample_afterReset s.power s.timebase.reasons.pin

end Sys2Proof.Machine

namespace Sys2Proof.Claims

open Sys2Proof.Machine

/-- Settles O14: the taking of RESTART, then its effect at its reply's end. -/
theorem restartAnswersThenResets : Obligations.RestartAnswersThenResets := by
  refine ⟨fun seq s takes => ?taken, fun pins s f alive restarts sends => ?effect⟩
  case taken => exact exec_answered (r := .restart) 0 (by simp) rfl takes rfl
  case effect =>
    refine (execReplyComplete_restart pins alive restarts sends).trans (congrArg Host.Outcome.next ?_)
    exact restartEffect_eq_afterReset { s with inputs := pins }

/-- Settles O11: a flag of 0 or 1, then every other. -/
theorem statusSnapshotsThenClears : Obligations.StatusSnapshotsThenClears := by
  intro seq clear s takes
  have respond {t : State} {reply : Reply} (h : statusRequest clear s = (t, some reply)) :
      exec (.status seq clear) s = .next (answered t seq (.status clear) reply) :=
    exec_answered 0 (by simp) rfl takes h
  split
  · next flag => exact respond (statusRequest_flag flag)
  · next other => exact respond (statusRequest_badField other)

/-- Settles O9: the taking and the part's values; the repeat is an arrival that is answered from the record (R171). -/
theorem identifyReportsThePart : Obligations.IdentifyReportsThePart := by
  refine fun seq s => ⟨fun takes => ?taken, rfl, rfl, fun alive waits free cached record => ?repeated⟩
  case taken => exact exec_answered (r := .identify) 0 (by simp) rfl takes rfl
  case repeated =>
    obtain ⟨-, -, fromRecord, -⟩ := arrivalsThatAreNotTaken seq 0 .identify s rfl alive
    exact fromRecord waits free cached record

end Sys2Proof.Claims
end

section
/-! The queue of commands, which only the step writes: every request and every arrival of a frame leaves it alone; then
the outcome of each command, well formed or malformed. -/

namespace Sys2Proof.Machine

section
variable {s t : State}

/-! ## Requests -/

theorem Update.pending (h : Update s t) : t.pending = s.pending := by cases h <;> simp

theorem Updates.pending (h : Updates s t) : t.pending = s.pending :=
  h.keep (P := fun u => u.pending = s.pending) (fun hs u => u.pending.trans hs) rfl

/-- A request's effect leaves the queue alone. -/
theorem Effect.pending (e : Effect s t) : t.pending = s.pending := by
  cases e with
  | release p => exact (s.releaseThrough_updates p).pending
  | schedule batch => exact (Updates.foldl State.carryOut_updates batch s).pending
  | clearRule k => exact (s.clearRule_updates k).pending
  | unchanged | present | clearCounters | start | startZero | stop | setTimebase | reasons | reconfigure | writeSlot
    | clearPattern | read | watermark | cancel | cancelLine | rule | acknowledge | configure => simp

theorem Answers.pending {seq : Byte} {check : Half} {a : Answer} (h : Answers seq check s a) :
    a.1.pending = s.pending := by
  cases h with
  | reply e => exact e.pending
  | restart => rfl
  | defer => rfl

/-! ## Frames that arrive -/

/-- Taking a frame leaves the queue alone when its answer does. -/
theorem State.take_pending {f : RequestFrame} {answer : State → Answer} (h : (answer s).1.pending = s.pending) :
    (s.take f answer).pending = s.pending := by
  cases hr : s.link.repeatOf f.seq f.check with
  | some record => rw [State.take_repeat _ hr]
  | none => rw [State.take_new _ hr]; exact h

theorem State.arrive_pending {f : RequestFrame} {answer : State → Answer} (h : (answer s).1.pending = s.pending) :
    (s.arrive f answer).pending = s.pending := by
  rcases s.arrive_cases f answer with e | ⟨-, e⟩ | ⟨-, e⟩ <;> rw [e]
  · exact s.countOverrun_pending
  · exact State.take_pending h

theorem answerFrame_pending (f : RequestFrame) (s : State) : (answerFrame f s).1.pending = s.pending :=
  (answerFrame_answers f s).pending

theorem State.takeWaiting_pending (s : State) : s.takeWaiting.pending = s.pending := by
  unfold State.takeWaiting
  split
  · split
    · rfl
    · exact State.take_pending (s := { s with link := { s.link with waiting := none } }) (answerFrame_pending _ _)
  · rfl

/-- The end of a reply: the transmitter's choice, then the taking of the waiting frame (R175). -/
theorem State.replySent_pending (s : State) : s.replySent.pending = s.pending :=
  (State.takeWaiting_pending _).trans (State.transmit_pending _)

theorem State.evaluate_pending (s : State) (seq kind : Byte) (payload : List Byte) (check : Half) :
    (s.evaluate seq kind payload check).pending = s.pending := by
  unfold State.evaluate
  split
  · exact s.discardFrame_pending _
  · split
    · exact s.discardFrame_pending _
    · exact State.arrive_pending (s := s.setReceiver .hunt) (answerFrame_pending _ _)

theorem State.receiveGood_pending (s : State) (v : Byte) : (s.receiveGood v).pending = s.pending := by
  cases rx : s.link.rx with
  | hunt => rw [State.receiveGood_hunt rx]; split <;> rfl
  | len => rw [State.receiveGood_len rx]; split <;> rfl
  | header n seq =>
    cases seq with
    | none => rw [State.receiveGood_seq rx]; rfl
    | some seq => rw [State.receiveGood_kind rx]; rfl
  | body n seq kind payload => rw [State.receiveGood_body rx]; rfl
  | check seq kind payload low =>
    cases low with
    | none => rw [State.receiveGood_low rx]; rfl
    | some low => rw [State.receiveGood_high rx]; exact s.evaluate_pending ..

theorem State.receive_pending (s : State) (v : Byte) (good : Bool) : (s.receive v good).pending = s.pending := by
  unfold State.receive
  split
  · exact s.receiveGood_pending v
  · split
    · rfl
    · exact s.discardFrame_pending _

end

end Sys2Proof.Machine

namespace Sys2Proof.Claims

open Sys2Proof.Machine

/-! ## The outcome of a command -/

/-- The outcome is a next state with the same queue. -/
def KeepsQueue (s : State) (outcome : Result) : Prop := ∃ t, outcome = .next t ∧ t.pending = s.pending

/-- A command has a next state with the same queue if a frame or a pin can show it, and is refused as malformed
otherwise. -/
def Settled (c : Instr) (s : State) : Prop :=
  (c.wellFormed = true → KeepsQueue s (exec c s)) ∧ (c.wellFormed = false → exec c s = .refused .malformed)

section
variable {s : State}

theorem event_keepsQueue {f : State → State} (keeps : (f s).pending = s.pending) : KeepsQueue s (event f s) := by
  cases held : s.power.inReset with
  | true => exact ⟨s, event_inReset f s held, rfl⟩
  | false => exact ⟨_, event_next f s held, (State.transmit_pending _).trans keeps⟩

theorem eventIf_keepsQueue (enabled : State → Bool) {f : State → State} (keeps : (f s).pending = s.pending) :
    KeepsQueue s (eventIf enabled f s) := by
  unfold eventIf
  split
  · exact event_keepsQueue keeps
  · exact ⟨s, rfl, rfl⟩

theorem submit_keepsQueue (seq : Byte) {r : Request} {answer : Half → State → Answer} (fits : r.wellFormed = true)
    (keeps : ∀ check, (answer check s).1.pending = s.pending) : KeepsQueue s (submit seq r answer s) := by
  rw [submit, if_pos fits]
  exact event_keepsQueue (State.arrive_pending (keeps _))

theorem submit_malformed (seq : Byte) {r : Request} (answer : Half → State → Answer) (long : r.wellFormed = false) :
    submit seq r answer s = .refused .malformed := by
  rw [submit, long]
  rfl

/-- A request's command fits a frame exactly when the request does: 3 bytes an edge, 15 an order (R196, R199). -/
theorem command_wellFormed (seq : Byte) (pins : Half) (r : Request) :
    (command seq pins r).wellFormed = r.wellFormed := by
  cases r with
  | writeSlot line slot boundary edges =>
    have length : (Request.writeSlot line slot boundary edges).payload.length = 3 + 3 * edges.length := by
      induction edges with
      | nil => rfl
      | cons e rest ih => simp [Request.payload, RawEdge.bytes, bytes16] at ih ⊢; omega
    rw [Request.wellFormed, length]
    rfl
  | schedule orders =>
    have length : (Request.schedule orders).payload.length = 15 * orders.length :=
      readOrders_length (readOrders_bytes orders)
    rw [Request.wellFormed, length]
    rfl
  | _ => rfl

/-- Every request's command is submitted, with an answer that leaves the queue alone. -/
theorem exec_command_submit (seq : Byte) (pins : Half) (r : Request) (s : State) :
    ∃ answer : Half → State → Answer, exec (command seq pins r) s = submit seq r answer s
      ∧ ∀ check, (answer check s).1.pending = s.pending := by
  by_cases lines : r = .readLines
  · subst lines
    exact ⟨fun _ s => readLinesRequest (s.present pins), rfl, fun _ => s.present_pending pins⟩
  · exact ⟨fun check => runRequest seq check r, exec_command seq pins r lines s,
      fun check => (runRequest_answers seq check r s).pending⟩

theorem command_settled (seq : Byte) (pins : Half) (r : Request) (s : State) : Settled (command seq pins r) s := by
  obtain ⟨answer, submitted, keeps⟩ := exec_command_submit seq pins r s
  rw [Settled, submitted, command_wellFormed]
  exact ⟨fun fits => submit_keepsQueue seq fits keeps, fun long => submit_malformed seq answer long⟩

/-- UNKNOWN_KIND: its term is well formed unless the kind is known or the payload too long (log entry 9). -/
theorem unknownKind_settled (seq : Byte) (kind : BitVec 6) (payload : List Byte) (s : State) :
    Settled (.unknownKind seq kind payload) s := by
  have fits_eq : (Instr.unknownKind seq kind payload).wellFormed
      = !(knownKind kind || decide (Config.payloadLimit < payload.length)) := by
    simp only [Instr.wellFormed, Bool.not_or, ← decide_not, Nat.not_lt]
  change (_ → KeepsQueue s (execUnknownKind seq kind payload s)) ∧ (_ → execUnknownKind seq kind payload s = _)
  rw [fits_eq, execUnknownKind]
  cases knownKind kind || decide (Config.payloadLimit < payload.length) with
  | true => exact ⟨nofun, fun _ => rfl⟩
  | false => exact ⟨fun _ => event_keepsQueue (State.arrive_pending rfl), nofun⟩

end

/-- A command of which every term is well formed. -/
theorem settled_of_keepsQueue {c : Instr} {s : State} (outcome : Result) (runs : exec c s = outcome)
    (fits : c.wellFormed = true) (keeps : KeepsQueue s outcome) : Settled c s :=
  ⟨fun _ => runs ▸ keeps, fun malformed => absurd (fits.symm.trans malformed) (by simp)⟩

theorem execReplyComplete_keepsQueue (pins : Half) (s : State) : KeepsQueue s (execReplyComplete pins s) := by
  unfold execReplyComplete
  split
  · exact ⟨_, rfl, State.restartEffect_pending _⟩
  · exact eventIf_keepsQueue _ (State.replySent_pending _)

theorem execResetEnd_keepsQueue (rate1 rate0 asserted : Bool) (s : State) :
    KeepsQueue s (execResetEnd rate1 rate0 asserted s) := by
  refine ⟨_, rfl, ?_⟩
  split
  · exact s.endReset_pending _ _
  · rfl

/-- A tick, and each of the five commands that are one (log entry 1). -/
theorem tick_keepsQueue (enabled : State → Bool) (pins : Half) (s : State) :
    KeepsQueue s (eventIf enabled (·.runTick pins) s) :=
  eventIf_keepsQueue enabled (s.runTick_pending pins)

/-- Every command: 27 requests, UNKNOWN_KIND, and the events, which have no malformed term. -/
theorem exec_settled (c : Instr) (s : State) : Settled c s := by
  cases c with
  | identify seq => exact command_settled seq 0 .identify s
  | status seq clear => exact command_settled seq 0 (.status clear) s
  | await seq condition argument timeout => exact command_settled seq 0 (.await condition argument timeout) s
  | restart seq => exact command_settled seq 0 .restart s
  | start seq origin => exact command_settled seq 0 (.start origin) s
  | stop seq => exact command_settled seq 0 .stop s
  | setTimebase seq exponent length guard => exact command_settled seq 0 (.setTimebase exponent length guard) s
  | hold seq => exact command_settled seq 0 .hold s
  | resume seq => exact command_settled seq 0 .resume s
  | setLine seq line mode polarity filter idle holdAction =>
    exact command_settled seq 0 (.setLine line mode polarity filter idle holdAction) s
  | readLines seq pins => exact command_settled seq pins .readLines s
  | writeSlot seq line slot boundary edges => exact command_settled seq 0 (.writeSlot line slot boundary edges) s
  | clearPattern seq line => exact command_settled seq 0 (.clearPattern line) s
  | readCaptures seq source qseq max => exact command_settled seq 0 (.readCaptures source qseq max) s
  | releaseCaptures seq upto => exact command_settled seq 0 (.releaseCaptures upto) s
  | setQueue seq watermark => exact command_settled seq 0 (.setQueue watermark) s
  | schedule seq orders => exact command_settled seq 0 (.schedule orders) s
  | cancel seq tag complete => exact command_settled seq 0 (.cancel tag complete) s
  | cancelLine seq line => exact command_settled seq 0 (.cancelLine line) s
  | listAgenda seq first count => exact command_settled seq 0 (.listAgenda first count) s
  | setFollow seq id settings => exact command_settled seq 0 (.setFollow id settings) s
  | armFollow seq id => exact command_settled seq 0 (.armFollow id) s
  | disarmFollow seq id => exact command_settled seq 0 (.disarmFollow id) s
  | clearFollow seq id => exact command_settled seq 0 (.clearFollow id) s
  | readFollow seq id => exact command_settled seq 0 (.readFollow id) s
  | ackNotices seq upto => exact command_settled seq 0 (.ackNotices upto) s
  | setNotices seq mask interval => exact command_settled seq 0 (.setNotices mask interval) s
  | unknownKind seq kind payload => exact unknownKind_settled seq kind payload s
  | duplicateFrame kind =>
    exact settled_of_keepsQueue (execDuplicateFrame kind s) rfl rfl (eventIf_keepsQueue _ (s.takeRepeat_pending kind))
  | frameDiscard cause =>
    exact settled_of_keepsQueue (execFrameDiscard cause s) rfl rfl (eventIf_keepsQueue _ (s.discardFrame_pending cause))
  | overrun => exact settled_of_keepsQueue (execOverrun s) rfl rfl (eventIf_keepsQueue _ s.countOverrun_pending)
  | byteGapExpiry =>
    exact settled_of_keepsQueue (execByteGapExpiry s) rfl rfl (eventIf_keepsQueue _ (s.discardFrame_pending .badStop))
  | replyComplete pins =>
    exact settled_of_keepsQueue (execReplyComplete pins s) rfl rfl (execReplyComplete_keepsQueue pins s)
  | deferredReplyComplete =>
    exact settled_of_keepsQueue (execDeferredReplyComplete s) rfl rfl (eventIf_keepsQueue _ s.deferredSent_pending)
  | noticeFrameComplete =>
    exact settled_of_keepsQueue (execNoticeFrameComplete s) rfl rfl (eventIf_keepsQueue _ s.noticeSent_pending)
  | repeatFrameComplete =>
    exact settled_of_keepsQueue (execRepeatFrameComplete s) rfl rfl (eventIf_keepsQueue _ s.endFrame_pending)
  | repeatTimerExpiry =>
    exact settled_of_keepsQueue (execRepeatTimerExpiry s) rfl rfl (eventIf_keepsQueue _ s.repeatExpiry_pending)
  | awaitTimeout =>
    exact settled_of_keepsQueue (execAwaitTimeout s) rfl rfl (eventIf_keepsQueue _ s.awaitExpiry_pending)
  | holdPinAsserted =>
    exact settled_of_keepsQueue (execHoldPinAsserted s) rfl rfl (eventIf_keepsQueue _ s.pinAsserted_pending)
  | holdPinReleased =>
    exact settled_of_keepsQueue (execHoldPinReleased s) rfl rfl (eventIf_keepsQueue _ s.pinReleased_pending)
  | tick pins => exact settled_of_keepsQueue (execTick pins s) rfl rfl (tick_keepsQueue _ pins s)
  | cycleBoundary pins => exact settled_of_keepsQueue (execCycleBoundary pins s) rfl rfl (tick_keepsQueue _ pins s)
  | expireSingleAction tag pins =>
    exact settled_of_keepsQueue (execExpireSingleAction tag pins s) rfl rfl (tick_keepsQueue _ pins s)
  | expirePulseLead tag pins =>
    exact settled_of_keepsQueue (execExpirePulseLead tag pins s) rfl rfl (tick_keepsQueue _ pins s)
  | expirePulseTrail tag pins =>
    exact settled_of_keepsQueue (execExpirePulseTrail tag pins s) rfl rfl (tick_keepsQueue _ pins s)
  | captureQualified line pins =>
    exact settled_of_keepsQueue (execCaptureQualified line pins s) rfl rfl (tick_keepsQueue _ pins s)
  | powerUp => exact settled_of_keepsQueue (execPowerUp s) rfl rfl ⟨_, rfl, s.beginReset_pending _⟩
  | resetAsserted => exact settled_of_keepsQueue (execResetAsserted s) rfl rfl ⟨_, rfl, s.beginReset_pending _⟩
  | resetEnd rate1 rate0 asserted =>
    exact settled_of_keepsQueue (execResetEnd rate1 rate0 asserted s) rfl rfl (execResetEnd_keepsQueue ..)
  | characterReceived v good pins =>
    exact settled_of_keepsQueue (execCharacterReceived v good pins s) rfl rfl
      (event_keepsQueue (State.receive_pending (s.present pins) v good))
  | vddBelowThreshold => exact settled_of_keepsQueue (execVddBelowThreshold s) rfl rfl ⟨_, rfl, s.beginReset_pending _⟩

/-- Settles O2: a request's frame arrives or is too long, UNKNOWN_KIND alike, and every other command is an event. -/
theorem commandsCompleteAndKeepTheQueue : Obligations.CommandsCompleteAndKeepTheQueue := exec_settled

/-- Settles O4. -/
theorem payloadReadsBack : Obligations.PayloadReadsBack := fun _ => parseRequest_payload

end Sys2Proof.Claims
end

section
/-! PROOFS. The front of the command queue, and the commands that change nothing: a tick outside RUNNING (R1) and
everything but power and reset while a hardware reset lasts (R178, R193). -/

namespace Sys2Proof.Claims

open Sys2Proof.Machine

section
variable {s : State}

theorem step_front {c : Instr} {rest : List Instr} (front : s.pending = c :: rest) :
    step s = exec c (s.withPending rest) := by
  rw [step, front]

/-- A command that comes about only at a tick cannot occur outside RUNNING (log entry 6). -/
theorem tick_outsideRunning {enabled : State → Bool} {pins : Half} (outside : s.timebase.state ≠ .running)
    (needs : enabled s = true → s.isRunning = true) : eventIf enabled (·.runTick pins) s = .next s :=
  eventIf_off _ _ s (Bool.eq_false_iff.2 fun on => outside (by simpa [State.isRunning] using needs on))

theorem submit_inReset {seq : Byte} {r : Request} {answer : Half → State → Answer} (held : s.power.inReset = true)
    (fits : r.wellFormed = true) : submit seq r answer s = .next s := by
  rw [submit, if_pos fits]
  exact event_inReset _ s held

theorem execUnknownKind_inReset {seq : Byte} {kind : BitVec 6} {payload : List Byte} (held : s.power.inReset = true)
    (fits : (Instr.unknownKind seq kind payload).wellFormed = true) : execUnknownKind seq kind payload s = .next s := by
  obtain ⟨unknown, short⟩ : knownKind kind = false ∧ payload.length ≤ Config.payloadLimit := by
    simpa [Instr.wellFormed] using fits
  rw [execUnknownKind, if_neg (by simp [unknown, short])]
  exact event_inReset _ s held

/-- No RESTART takes effect while the hardware reset lasts. -/
theorem execReplyComplete_inReset (pins : Half) (held : s.power.inReset = true) : execReplyComplete pins s = .next s := by
  rw [execReplyComplete, if_neg (by simp [held])]
  exact eventIf_inReset _ _ s held

/-- During a hardware reset only power and reset act (log entry 11). The last case is the requests of fixed length, each
of which fits a frame by computation. -/
theorem exec_inReset (c : Instr) (held : s.power.inReset = true) (fits : c.wellFormed = true) :
    exec c s = .next s ∨ c = .powerUp ∨ c = .resetAsserted ∨ c = .vddBelowThreshold
      ∨ ∃ rate1 rate0 holdAsserted, c = .resetEnd rate1 rate0 holdAsserted := by
  cases c with
  | powerUp => exact .inr (.inl rfl)
  | resetAsserted => exact .inr (.inr (.inl rfl))
  | vddBelowThreshold => exact .inr (.inr (.inr (.inl rfl)))
  | resetEnd rate1 rate0 holdAsserted => exact .inr (.inr (.inr (.inr ⟨rate1, rate0, holdAsserted, rfl⟩)))
  | replyComplete pins => exact .inl (execReplyComplete_inReset pins held)
  | characterReceived =>
    rw [exec]
    exact .inl (event_inReset _ s held)
  | duplicateFrame | frameDiscard | overrun | byteGapExpiry | deferredReplyComplete | noticeFrameComplete
  | repeatFrameComplete | repeatTimerExpiry | awaitTimeout | holdPinAsserted | holdPinReleased | tick | cycleBoundary
  | expireSingleAction | expirePulseLead | expirePulseTrail | captureQualified =>
    rw [exec]
    exact .inl (eventIf_inReset _ _ s held)
  | unknownKind seq kind payload => exact .inl (execUnknownKind_inReset held fits)
  | writeSlot seq line slot boundary edges =>
    rw [exec]
    exact .inl (submit_inReset held ((command_wellFormed seq 0 (.writeSlot line slot boundary edges)).symm.trans fits))
  | schedule seq orders =>
    rw [exec]
    exact .inl (submit_inReset held ((command_wellFormed seq 0 (.schedule orders)).symm.trans fits))
  | _ =>
    rw [exec]
    exact .inl (submit_inReset held rfl)

end

/-- Settles O52: every tick command needs RUNNING, and `event` does nothing during a hardware reset. -/
theorem eventsThatCannotOccur : Obligations.EventsThatCannotOccur :=
  ⟨fun pins _ line _ outside =>
    ⟨tick_outsideRunning outside id,
      tick_outsideRunning (enabled := fun u => u.isRunning && u.timebase.atBoundary) outside isRunning_of_and,
      tick_outsideRunning outside State.isRunning_of_expiresNext,
      tick_outsideRunning outside State.isRunning_of_expiresNext,
      tick_outsideRunning outside State.isRunning_of_expiresNext,
      tick_outsideRunning (enabled := fun u => u.isRunning && ((u.countTick pins).captureAt line).isSome) outside
        isRunning_of_and⟩,
    fun c _ => exec_inReset c⟩

/-- Settles O1. -/
theorem frontCommandRunsOnTheRest : Obligations.FrontCommandRunsOnTheRest := fun _ _ _ => step_front

end Sys2Proof.Claims
end
